-- ==== Sys2Proof/Word.lean ====
section
/-! DEFINITION. The byte, the only unit of the framer (spec/00_scope.md R8, spec/20_memory.md R42), and the plainest
operations on bytes and byte buffers. -/

namespace Sys2Proof

/-- A byte: an unsigned integer in 0..255 (R8). -/
abbrev Byte := BitVec 8

/-- The sum of a byte sequence over unbounded integers (R91: the sum `s` before it is cut to eight bits). -/
def byteSum (bs : List Byte) : Nat := (bs.map BitVec.toNat).sum

end Sys2Proof
end

