-- ==== Sys2Proof/Config.lean ====
section
/-! DEFINITION. What an implementation of the framer fixes (spec/00_scope.md R5, spec/10_state.md R29), the types the
spec leaves opaque, and the free values: constants with no body, of which nothing can be proved. -/

namespace Sys2Proof

/-- Parity of a channel configuration; only "no parity" is named by the spec (R5, `PROTO_CFG`).
`other` stands for every parity setting the framer never looks at. -/
inductive Parity where
  | none
  | other (code : Nat)
deriving DecidableEq, Repr, Inhabited

/-- A channel configuration value (R5 `Settings`, R172: opaque to the framer, stored and handed back whole).
The named fields are those of `PROTO_CFG` in R5; `rest` is whatever else the transport's full configuration holds.
DESIGN CHOICE, log 10. -/
structure Settings where
  dataBits : Nat
  parity : Parity
  baud : Nat
  stopBits : Nat
  linger : Nat
  rest : Nat
deriving DecidableEq, Repr, Inhabited

/-- A tap callback handle (R5 `TapFn`): opaque, with a distinguished empty value. DESIGN CHOICE, log 10. -/
inductive TapFn where
  | empty
  | handle (n : Nat)
deriving DecidableEq, Repr, Inhabited

/-- The context value of a tap (R5 `TapCtx`): opaque. DESIGN CHOICE, log 10. -/
structure TapCtx where
  token : Nat
deriving DecidableEq, Repr, Inhabited

/-- How bytes are fetched beneath a block read (R126 `RX_BYTE_MODE`). -/
inductive RxByteMode where
  | generic
  | rawBounded
  | rawUnbounded
deriving DecidableEq, Repr

/-- The parameters the platform supplies at construction (R193) that the spec leaves OPEN, and `RX_BYTE_MODE` (R5).
`tStage` and `tSettle` are timing only: no rule of the step reads them (R117 (3), R163, R215). Log 9. -/
structure Params where
  /-- `DIR_TX_LEVEL`: the level of the direction line that selects transmit (R26, decision D12). -/
  dirTxLevel : Bool
  /-- `BAUD` of `PROTO_CFG` (decision D11). -/
  baud : Nat
  /-- `STOP_BITS` of `PROTO_CFG` (decision D11). -/
  stopBits : Nat
  /-- `LINGER` of `PROTO_CFG` (decision D11). -/
  linger : Nat
  /-- the rest of `PROTO_CFG`'s full transport configuration (R172). -/
  protoRest : Nat
  /-- `T_STAGE` (decision D10), timing only. -/
  tStage : Nat
  /-- `T_SETTLE` (decision D30), timing only. -/
  tSettle : Nat
  /-- `RX_BYTE_MODE` (R126, decision D22). -/
  rxByteMode : RxByteMode
deriving DecidableEq, Repr

namespace Config

/-- `HDR0`, the first header byte (R5). -/
def hdr0 : Byte := 0xFF
/-- `HDR1`, the second header byte (R5). -/
def hdr1 : Byte := 0xFF
/-- `HDR_LEN`, the bytes of the fixed header (R5). -/
abbrev hdrLen : Nat := 5
/-- `ID_MAX_UNICAST` (R5). -/
def idMaxUnicast : Byte := 253
/-- `ID_BROADCAST` (R5). -/
def idBroadcast : Byte := 254
/-- `ABSENT`, the sentinel of `ADDR` and `PCNT` (R5). -/
def absent : Byte := 255
/-- `LEN_MIN` (R5). -/
abbrev lenMin : Nat := 2
/-- `LEN_MAX` (R5). -/
abbrev lenMax : Nat := 255
/-- `DATA_CAP` (R5, decision D28). -/
abbrev dataCap : Nat := 253
/-- `IDLIST_CAP` (R5, decision D28). -/
abbrev idlistCap : Nat := 251
/-- `POLL_MAX`, the sleeps of the availability poll (R5). -/
def pollMax : Nat := 100
/-- `POLL_US`, microseconds of one sleep (R5). -/
abbrev pollUs : Nat := 100
/-- The largest `expectedParamCount` (R70, decision D29). -/
abbrev countMax : Nat := 253

/-- The protocol's fixed channel configuration `PROTO_CFG`: 8 data bits and no parity are fixed, the rest is the
platform's (R5, R29, decision D11). -/
def protoCfg (p : Params) : Settings :=
  { dataBits := 8, parity := .none, baud := p.baud, stopBits := p.stopBits, linger := p.linger, rest := p.protoRest }

/-- `DIR_TX_LEVEL` of this platform: OPEN (R5), free. -/
opaque dirTxLevel : Bool
/-- `BAUD`, `STOP_BITS`, `LINGER` and the rest of `PROTO_CFG` on this platform: OPEN (R5), free. -/
opaque baud : Nat
opaque stopBits : Nat
opaque linger : Nat
opaque protoRest : Nat
/-- `T_STAGE` and `T_SETTLE` of this platform: OPEN (R5), free, timing only. -/
opaque tStage : Nat
opaque tSettle : Nat

/-- The parameters a platform supplies at construction; `RX_BYTE_MODE` at the spec's default (R5, decision D22). -/
def params : Params :=
  { dirTxLevel := dirTxLevel, baud := baud, stopBits := stopBits, linger := linger, protoRest := protoRest
    tStage := tStage, tSettle := tSettle, rxByteMode := .generic }

/-- The channel's configuration when the framer is constructed: environment state, not reset by the framer (R32). -/
opaque cfgAtReset : Settings
/-- The bytes in the receive stream when the framer is constructed: environment state, not reset (R32, R190). -/
opaque rxAtReset : List Byte
/-- The bytes in the transmit stream when the framer is constructed: environment state, not reset (R32, R190). -/
opaque txAtReset : List Byte

/-- Free value: the configuration a channel is left in by a `configure` that returned false
(R171, 91_not_in_source.md N9, 93_implementation_defined.md U4). Log 5. -/
opaque cfgAfterFailedConfigure : Nat → Settings
/-- Free values: what the registers R32 leaves unspecified hold after a reset input (R190, U3). Log 12. -/
opaque byteAfterReset : Nat → Byte
opaque countAfterReset : Nat → Nat
opaque cfgAfterReset : Nat → Settings
opaque tapFnAfterReset : Nat → TapFn
opaque tapCtxAfterReset : Nat → TapCtx

end Config
end Sys2Proof
end

