-- ==== Sys2Proof/Syntax.lean ====
section
/-! DEFINITION. The instructions: one constructor per row of spec/opcode_table.json (spec/30_encoding.md R62, R63, R66,
R69, R72), and the names under which the decoder refuses. -/

namespace Sys2Proof

/-- The rows of the opcode table. The nine host commands (R69), the seven reserved command codes (R72), and the six
wire forms (R62, R63): a packet of that form on the shared line, with its fields (log 2). Register operands of a
command are always the one descriptor (R70) and are read from the state. -/
inductive Instr where
  /-- `BEGIN` (R112). -/
  | beginTxn
  /-- `SEND` (R116). -/
  | send
  /-- `RECEIVE expectedParamCount` (R119); an unsigned integer (R70). -/
  | receive (expectedParamCount : Nat)
  /-- `END` (R127). -/
  | endTxn
  /-- `TRANSACT expectedParamCount` (R129). -/
  | transact (expectedParamCount : Nat)
  /-- `SETTAP fn ctx` (R140). -/
  | setTap (fn : TapFn) (ctx : TapCtx)
  /-- `CHECKSUM` (R90). -/
  | checksum
  /-- `ENCODE` (R93). -/
  | encode
  /-- `DECODE hdr expectedId expectedParamCount` as a command of the host (R69, R111). -/
  | decode (hdr : Vector Byte Config.hdrLen) (expectedId : Byte) (expectedParamCount : Nat)
  /-- Command code `0x0` (R72). -/
  | reserved0
  /-- Command code `0xA` (R72). -/
  | reservedA
  /-- Command code `0xB` (R72). -/
  | reservedB
  /-- Command code `0xC` (R72). -/
  | reservedC
  /-- Command code `0xD` (R72). -/
  | reservedD
  /-- Command code `0xE` (R72). -/
  | reservedE
  /-- Command code `0xF` (R72). -/
  | reservedF
  /-- Wire form `REQ_PLAIN` (R62). -/
  | reqPlain (id len instr : Byte) (data : List Byte) (cksum : Byte)
  /-- Wire form `REQ_ADDR` (R62). -/
  | reqAddr (id len instr addr : Byte) (data : List Byte) (cksum : Byte)
  /-- Wire form `REQ_PCNT` (R62). -/
  | reqPcnt (id len instr pcnt : Byte) (data : List Byte) (cksum : Byte)
  /-- Wire form `REQ_ADDR_PCNT` (R62). -/
  | reqAddrPcnt (id len instr addr pcnt : Byte) (data : List Byte) (cksum : Byte)
  /-- Wire form `REQ_SYNC` (R62, R66): groups of one device id and a fixed-size payload. -/
  | reqSync (id len instr : Byte) (addr : Option Byte) (pcnt : Byte) (groups : List (Byte × List Byte)) (cksum : Byte)
  /-- Wire form `RESP` (R63); the fifth byte is the device status. -/
  | resp (id len status : Byte) (params : List Byte) (cksum : Byte)
deriving DecidableEq, Repr

/-- Why the decoder answers no instruction. -/
inductive DecodeError where
  /-- No byte, or the bytes end inside the instruction. -/
  | truncated
  /-- The first byte is no command code (R69), no form tag (log 1) and no header byte (R60). -/
  | noSuchCode
  /-- A packet that does not begin with the two header bytes (R60). -/
  | noHeader
  /-- A request whose length byte is too small for its fields, or does not fit its groups (R64, R71). -/
  | badLength
  /-- A present address or count byte that is the sentinel 255 (R65). -/
  | sentinel
  /-- A request to id 255, or a sync write to an id other than 254 (R71, R72). -/
  | badId
deriving DecidableEq, Repr

end Sys2Proof
end

