-- ==== Sys2Proof/WellFormed.lean ====
section
/-! DEFINITION. Which instructions have an encoding: the range of each operand (spec/30_encoding.md R70) and the length
equation and presence rules of each wire form (R64, R65, R66, R71). -/

namespace Sys2Proof

/-- The number a tap handle is carried as in a command: 0 is the empty value (log 1). -/
def TapFn.code : TapFn → Nat
  | .empty => 0
  | .handle n => n + 1

/-- The device ids a request may carry: 0 to 253, or 254 for broadcast (R71, R72). -/
def requestId (id : Byte) : Bool := id ≤ Config.idBroadcast

/-- A present address or count byte is not the sentinel (R65). -/
def presentByte (b : Byte) : Bool := b ≠ Config.absent

/-- The well-formed instructions. `expectedParamCount` lies in 0..253 (R70); a request form satisfies the length
equation of R64 for its own fields and the presence rule of R65; a sync write satisfies R71; a response carries
`LEN − 2` parameter bytes (none when the length byte is 0 or 1). The checksum byte of a packet is any byte. -/
def Instr.wellFormed : Instr → Bool
  | .beginTxn | .send | .endTxn | .checksum | .encode => true
  | .reserved0 | .reservedA | .reservedB | .reservedC | .reservedD | .reservedE | .reservedF => true
  | .receive n => n ≤ Config.countMax
  | .transact n => n ≤ Config.countMax
  | .setTap fn ctx => fn.code < 2 ^ 32 && ctx.token < 2 ^ 32
  | .decode _ _ n => n ≤ Config.countMax
  | .reqPlain id len _ data _ => requestId id && len.toNat == 2 + data.length
  | .reqAddr id len _ addr data _ => requestId id && presentByte addr && len.toNat == 3 + data.length
  | .reqPcnt id len _ pcnt data _ => requestId id && presentByte pcnt && len.toNat == 3 + data.length
  | .reqAddrPcnt id len _ addr pcnt data _ =>
      requestId id && presentByte addr && presentByte pcnt && len.toNat == 4 + data.length
  | .reqSync id len _ addr pcnt groups _ =>
      id == Config.idBroadcast && addr.all presentByte && presentByte pcnt
        && len.toNat == 3 + addr.toList.length + groups.length * (pcnt.toNat + 1)
        && 1 ≤ groups.length && groups.length ≤ Config.idlistCap
        && groups.all fun g => g.2.length == pcnt.toNat
  | .resp _ len _ params _ => params.length == len.toNat - 2

end Sys2Proof
end

