-- ==== Sys2Proof/Decode.lean ====
section
/-! DEFINITION. The decoder, total on any bytes, and the encoder. A command is its 4-bit code (spec/30_encoding.md R69)
in the low half of a byte whose high half is 0, then its immediate operands (R70; log 1). A packet is the bytes of R60
and R61. Because a packet does not say which form built it (R62), bytes that begin `FF FF` are read as `RESP`, and a
request form stands behind a tag byte of the model's own, 0x10 to 0x15 (log 2). -/

namespace Sys2Proof

/-- The layout of every packet (R60, R61): header, id, length, instruction, the bytes between instruction and checksum,
checksum. -/
def packetBytes (id len instr : Byte) (between : List Byte) (cksum : Byte) : List Byte :=
  [Config.hdr0, Config.hdr1, id, len, instr] ++ between ++ [cksum]

/-- The payload of a sync write on the wire: for each device its id, then its fixed-size payload (R66). -/
def groupBytes (groups : List (Byte × List Byte)) : List Byte :=
  groups.flatMap fun g => g.1 :: g.2

/-- Longest instruction in bytes: a tag and a packet of `LEN + 4` bytes, at most 259 (R68). -/
def maxInstrBytes : Nat := 260

/-- Four bytes, the low one first, for an opaque operand (log 1). -/
def le32 (n : Nat) : List Byte :=
  [BitVec.ofNat 8 n, BitVec.ofNat 8 (n / 2 ^ 8), BitVec.ofNat 8 (n / 2 ^ 16), BitVec.ofNat 8 (n / 2 ^ 24)]

/-- The number that four bytes carry, the low one first. -/
def fromLe32 (a b c d : Byte) : Nat :=
  a.toNat + 2 ^ 8 * b.toNat + 2 ^ 16 * c.toNat + 2 ^ 24 * d.toNat

/-- The tap handle that a command's operand carries: 0 is the empty value (log 1). -/
def tapFnOfCode : Nat → TapFn
  | 0 => .empty
  | n + 1 => .handle n

/-- The five header bytes and what follows (R61). -/
def splitHeader : List Byte → Except DecodeError ((Byte × Byte × Byte) × List Byte)
  | h0 :: h1 :: id :: len :: instr :: rest =>
    if h0 = Config.hdr0 ∧ h1 = Config.hdr1 then .ok ((id, len, instr), rest) else .error .noHeader
  | _ => .error .truncated

/-- `n` bytes, then the checksum byte, then the rest. -/
def splitTail (n : Nat) (bs : List Byte) : Except DecodeError (List Byte × Byte × List Byte) :=
  match bs.drop n with
  | ck :: rest => .ok (bs.take n, ck, rest)
  | [] => .error .truncated

/-- A byte of a field that is present, so not the sentinel (R65). -/
def splitField : List Byte → Except DecodeError (Byte × List Byte)
  | b :: rest => if presentByte b then .ok (b, rest) else .error .sentinel
  | [] => .error .truncated

/-- `count` groups of one device id and `size` payload bytes (R66). -/
def splitGroups (size : Nat) : Nat → List Byte → Except DecodeError (List (Byte × List Byte) × List Byte)
  | 0, bs => .ok ([], bs)
  | _ + 1, [] => .error .truncated
  | count + 1, id :: bs =>
    if bs.length < size then .error .truncated
    else match splitGroups size count (bs.drop size) with
      | .ok (gs, rest) => .ok ((id, bs.take size) :: gs, rest)
      | .error e => .error e

/-- The payload and checksum of a flat request with `n` present fields: `p = LEN − 2 − n` bytes (R64). -/
def splitFlat (n : Nat) (id len : Byte) (bs : List Byte) : Except DecodeError (List Byte × Byte × List Byte) :=
  if requestId id then
    if len.toNat < 2 + n then .error .badLength else splitTail (len.toNat - 2 - n) bs
  else .error .badId

/-- The groups and checksum of a sync write (R64, R66, R71). -/
def splitSync (n : Nat) (id len pcnt : Byte) (bs : List Byte) :
    Except DecodeError (List (Byte × List Byte) × Byte × List Byte) :=
  if id ≠ Config.idBroadcast then .error .badId
  else
    let size := pcnt.toNat
    let count := (len.toNat - 2 - n) / (size + 1)
    if len.toNat ≠ 2 + n + count * (size + 1) ∨ count = 0 ∨ Config.idlistCap < count then .error .badLength
    else match splitGroups size count bs with
      | .ok (gs, ck :: rest) => .ok (gs, ck, rest)
      | .ok (_, []) => .error .truncated
      | .error e => .error e

/-- A packet in form `REQ_PLAIN` (R62). -/
def decodeReqPlain (bs : List Byte) : Except DecodeError (Instr × List Byte) := do
  let ((id, len, instr), bs) ← splitHeader bs
  let (data, ck, rest) ← splitFlat 0 id len bs
  .ok (.reqPlain id len instr data ck, rest)

/-- A packet in form `REQ_ADDR` (R62). -/
def decodeReqAddr (bs : List Byte) : Except DecodeError (Instr × List Byte) := do
  let ((id, len, instr), bs) ← splitHeader bs
  let (addr, bs) ← splitField bs
  let (data, ck, rest) ← splitFlat 1 id len bs
  .ok (.reqAddr id len instr addr data ck, rest)

/-- A packet in form `REQ_PCNT` (R62). -/
def decodeReqPcnt (bs : List Byte) : Except DecodeError (Instr × List Byte) := do
  let ((id, len, instr), bs) ← splitHeader bs
  let (pcnt, bs) ← splitField bs
  let (data, ck, rest) ← splitFlat 1 id len bs
  .ok (.reqPcnt id len instr pcnt data ck, rest)

/-- A packet in form `REQ_ADDR_PCNT` (R62). -/
def decodeReqAddrPcnt (bs : List Byte) : Except DecodeError (Instr × List Byte) := do
  let ((id, len, instr), bs) ← splitHeader bs
  let (addr, bs) ← splitField bs
  let (pcnt, bs) ← splitField bs
  let (data, ck, rest) ← splitFlat 2 id len bs
  .ok (.reqAddrPcnt id len instr addr pcnt data ck, rest)

/-- A packet in form `REQ_SYNC` with no address byte (R62, R66). -/
def decodeReqSync (bs : List Byte) : Except DecodeError (Instr × List Byte) := do
  let ((id, len, instr), bs) ← splitHeader bs
  let (pcnt, bs) ← splitField bs
  let (groups, ck, rest) ← splitSync 1 id len pcnt bs
  .ok (.reqSync id len instr none pcnt groups ck, rest)

/-- A packet in form `REQ_SYNC` with an address byte (R62, R66). -/
def decodeReqSyncAddr (bs : List Byte) : Except DecodeError (Instr × List Byte) := do
  let ((id, len, instr), bs) ← splitHeader bs
  let (addr, bs) ← splitField bs
  let (pcnt, bs) ← splitField bs
  let (groups, ck, rest) ← splitSync 2 id len pcnt bs
  .ok (.reqSync id len instr (some addr) pcnt groups ck, rest)

/-- A packet as a receiver takes it, form `RESP` (R63): `LEN − 2` parameter bytes, none for a length byte of 0 or 1. -/
def decodeResp (bs : List Byte) : Except DecodeError (Instr × List Byte) := do
  let ((id, len, status), bs) ← splitHeader bs
  let (params, ck, rest) ← splitTail (len.toNat - 2) bs
  .ok (.resp id len status params ck, rest)

/-- `RECEIVE`'s and `TRANSACT`'s operand: one byte (R70; log 1). -/
def decodeCount (mk : Nat → Instr) : List Byte → Except DecodeError (Instr × List Byte)
  | n :: rest => .ok (mk n.toNat, rest)
  | [] => .error .truncated

/-- `SETTAP`'s operands: handle, then context (R69; log 1). -/
def decodeSetTap : List Byte → Except DecodeError (Instr × List Byte)
  | f0 :: f1 :: f2 :: f3 :: c0 :: c1 :: c2 :: c3 :: rest =>
    .ok (.setTap (tapFnOfCode (fromLe32 f0 f1 f2 f3)) ⟨fromLe32 c0 c1 c2 c3⟩, rest)
  | _ => .error .truncated

/-- `DECODE`'s operands: five header bytes, the expected id, the expected count (R69; log 1). -/
def decodeDecode : List Byte → Except DecodeError (Instr × List Byte)
  | h0 :: h1 :: h2 :: h3 :: h4 :: id :: n :: rest => .ok (.decode #v[h0, h1, h2, h3, h4] id n.toNat, rest)
  | _ => .error .truncated

/-- The instruction at the front of a byte sequence, and the bytes after it. Total: every sequence that begins with no
instruction is refused by name. -/
def decode (bs : List Byte) : Except DecodeError (Instr × List Byte) :=
  match bs with
  | [] => .error .truncated
  | b :: rest =>
    match b.toNat with
    | 0x00 => .ok (.reserved0, rest)
    | 0x01 => .ok (.beginTxn, rest)
    | 0x02 => .ok (.send, rest)
    | 0x03 => decodeCount .receive rest
    | 0x04 => .ok (.endTxn, rest)
    | 0x05 => decodeCount .transact rest
    | 0x06 => decodeSetTap rest
    | 0x07 => .ok (.checksum, rest)
    | 0x08 => .ok (.encode, rest)
    | 0x09 => decodeDecode rest
    | 0x0A => .ok (.reservedA, rest)
    | 0x0B => .ok (.reservedB, rest)
    | 0x0C => .ok (.reservedC, rest)
    | 0x0D => .ok (.reservedD, rest)
    | 0x0E => .ok (.reservedE, rest)
    | 0x0F => .ok (.reservedF, rest)
    | 0x10 => decodeReqPlain rest
    | 0x11 => decodeReqAddr rest
    | 0x12 => decodeReqPcnt rest
    | 0x13 => decodeReqAddrPcnt rest
    | 0x14 => decodeReqSync rest
    | 0x15 => decodeReqSyncAddr rest
    | 0xFF => decodeResp (b :: rest)
    | _ => .error .noSuchCode

/-- The bytes of an instruction, from the same tables. -/
def encode : Instr → List Byte
  | .reserved0 => [0x00]
  | .beginTxn => [0x01]
  | .send => [0x02]
  | .receive n => [0x03, BitVec.ofNat 8 n]
  | .endTxn => [0x04]
  | .transact n => [0x05, BitVec.ofNat 8 n]
  | .setTap fn ctx => 0x06 :: (le32 fn.code ++ le32 ctx.token)
  | .checksum => [0x07]
  | .encode => [0x08]
  | .decode hdr id n => 0x09 :: (hdr.toList ++ [id, BitVec.ofNat 8 n])
  | .reservedA => [0x0A]
  | .reservedB => [0x0B]
  | .reservedC => [0x0C]
  | .reservedD => [0x0D]
  | .reservedE => [0x0E]
  | .reservedF => [0x0F]
  | .reqPlain id len instr data ck => 0x10 :: packetBytes id len instr data ck
  | .reqAddr id len instr addr data ck => 0x11 :: packetBytes id len instr (addr :: data) ck
  | .reqPcnt id len instr pcnt data ck => 0x12 :: packetBytes id len instr (pcnt :: data) ck
  | .reqAddrPcnt id len instr addr pcnt data ck => 0x13 :: packetBytes id len instr (addr :: pcnt :: data) ck
  | .reqSync id len instr none pcnt groups ck => 0x14 :: packetBytes id len instr (pcnt :: groupBytes groups) ck
  | .reqSync id len instr (some addr) pcnt groups ck =>
      0x15 :: packetBytes id len instr (addr :: pcnt :: groupBytes groups) ck
  | .resp id len status params ck => packetBytes id len status params ck

/-- The bytes a packet puts on the wire (R60 to R66); a command is no packet. -/
def wireBytes : Instr → List Byte
  | .beginTxn | .send | .receive _ | .endTxn | .transact _ | .setTap _ _ | .checksum | .encode | .decode _ _ _ => []
  | .reserved0 | .reservedA | .reservedB | .reservedC | .reservedD | .reservedE | .reservedF => []
  | .reqPlain id len instr data ck => packetBytes id len instr data ck
  | .reqAddr id len instr addr data ck => packetBytes id len instr (addr :: data) ck
  | .reqPcnt id len instr pcnt data ck => packetBytes id len instr (pcnt :: data) ck
  | .reqAddrPcnt id len instr addr pcnt data ck => packetBytes id len instr (addr :: pcnt :: data) ck
  | .reqSync id len instr addr pcnt groups ck =>
      packetBytes id len instr (addr.toList ++ pcnt :: groupBytes groups) ck
  | .resp id len status params ck => packetBytes id len status params ck

/-- `k` bytes of a number, the low one first. -/
def leBytes (k w : Nat) : List Byte :=
  (List.range k).map fun j => BitVec.ofNat 8 (w / 2 ^ (8 * j))

/-- The bytes of an instruction whose bits are `w`, numbered as spec/opcode_table.json numbers them. A command code is
one byte. A wire row's match is over the five header bytes, first byte most significant (the table's note), so a
40-bit word that meets that match is laid out from its high end. Every byte above is 0. -/
def tableBytes (nbits w : Nat) : List Byte :=
  (if nbits = 40 ∧ w / 2 ^ 24 = 0xFFFF then (leBytes 5 w).reverse else leBytes ((nbits + 7) / 8) (w % 2 ^ nbits))
    ++ List.replicate maxInstrBytes 0

/-- The instruction the decoder reads from a word of the opcode table. -/
def decodeTableWord (nbits w : Nat) : Option Instr :=
  match decode (tableBytes nbits w) with
  | .ok (i, _) => some i
  | .error _ => none

end Sys2Proof
end

