-- ==== Sys2Proof/Machine/State.lean ====
section
/-! DEFINITION. The state of the framer as plain data: every register of spec/10_state.md R10 to R28, the channel
environment's state (R31), the event history (spec/20_memory.md R50), and the model's own fields for the agents' next
moves. `State.reset` is the machine right after reset (R32, spec/70_reset_and_hazards.md R190). -/

namespace Sys2Proof.Machine

/-- The packet descriptor, the framer's general registers (R10 to R19). -/
structure Desc where
  /-- `ID` (R11). -/
  id : Byte
  /-- `LEN` (R12). -/
  len : Byte
  /-- `INSTR` (R13). -/
  instr : Byte
  /-- `ADDR`, 255 for "field absent" (R14). -/
  addr : Byte
  /-- `PCNT`, 255 for "field absent" (R15). -/
  pcnt : Byte
  /-- `DATA[0..252]` (R16). -/
  data : Vector Byte Config.dataCap
  /-- `IDLIST[0..250]` (R17). -/
  idlist : Vector Byte Config.idlistCap
  /-- `IDN` (R17). -/
  idn : Byte
  /-- `CKSUM` (R18). -/
  cksum : Byte
  /-- `STATUS`, the engine's result code (R19, R20). All eight bits are held (DESIGN CHOICE, log 26). -/
  status : Byte
deriving DecidableEq, Repr

/-- `PHASE` (R21); the 2-bit numbers 0 to 3 of the table are its `code`. -/
inductive Phase where
  | idle
  | reserved
  | sending
  | receiving
deriving DecidableEq, Repr

/-- The encoding of `PHASE` in R21's table. -/
def Phase.code : Phase → BitVec 2
  | .idle => 0
  | .reserved => 1
  | .sending => 2
  | .receiving => 3

/-- The channel environment's state that the framer's rules read or change (R31). -/
structure Channel where
  /-- `ch.cfg`, the active configuration. -/
  cfg : Settings
  /-- `ch.rx`, received bytes not yet read, oldest first. -/
  rx : List Byte
  /-- `ch.tx`, bytes written and not yet sent, oldest first. -/
  tx : List Byte
deriving DecidableEq, Repr

/-- The interface events (R50). `tap` also names the handle called (R142 `call TAP_FN(TAP_CTX, bytes)`; log 16). -/
inductive Event where
  | cfgGet (s : Settings)
  | cfgSet (s : Settings) (ok : Bool)
  | drain
  | dir (level : Bool)
  | tx (bytes : List Byte)
  | flush
  | avail (a : Nat)
  | sleep (us : Nat)
  | rx (n k : Nat) (bytes : List Byte)
  | tap (fn : TapFn) (ctx : TapCtx) (bytes : List Byte)
deriving DecidableEq, Repr

/-- What a command returned to the host (R69: the results of `BEGIN`, `CHECKSUM`, `ENCODE`; R129: `STATUS` for
`TRANSACT`). Log 14. -/
inductive CmdResult where
  | none
  | status (r : Byte)
  | byte (b : Byte)
  | bytes (bs : List Byte)
deriving DecidableEq, Repr

/-- Where a command that never returns is stuck (R126, R201, R208; 93_implementation_defined.md U6, U8). -/
inductive HangPoint where
  /-- a raw busy-wait for a byte that never arrives, in `RAW_UNBOUNDED` mode. -/
  | rawRead
  /-- a `ChFlush` on a channel that never drains. -/
  | flush
deriving DecidableEq, Repr

/-- One move of the channel environment, consumed by one channel primitive or one sleep (R42, R174, R175; log 4):
the bytes that arrive before or during it, and its answer where the environment has a choice. No move changes `ch.cfg`:
another user of the channel does so between commands only, by `Input.otherConfigure` (DESIGN CHOICE, log 25). -/
structure EnvMove where
  /-- bytes appended to `ch.rx` before the primitive takes effect (for a read: while it waits). -/
  arrive : List Byte := []
  /-- what `ChConfigure` returns (R171). -/
  configureOk : Bool := true
  /-- what `ChAvail` answers: `none` is the length of `ch.rx` (R174 (b)), `some a` any integer (R174 (a)). -/
  avail : Option Nat := .none
  /-- the most bytes a `ChRead` returns before its budget runs out: `none` is as many as are there (R175). -/
  readLimit : Option Nat := .none
  /-- whether `ChFlush` returns (R47, R208; U8). -/
  flushReturns : Bool := true
deriving DecidableEq, Repr

/-- The descriptor registers by name, as the host writes them (R10; D25). -/
inductive DescReg where
  | id
  | len
  | instr
  | addr
  | pcnt
  | data (i : Nat)
  | idlist (i : Nat)
  | idn
  | cksum
  | status
deriving DecidableEq, Repr

/-- What the host, the platform or the line does next; `step` takes one (R7; log 3). -/
inductive Input where
  /-- the bytes of an instruction: a command of the host (R69) or a packet on the line (log 2). -/
  | instr (bytes : List Byte)
  /-- the host writes a descriptor register (R10, R33). -/
  | write (r : DescReg) (v : Byte)
  /-- the platform sets the bus-enable flag (R25, R178). -/
  | busEnable (b : Bool)
  /-- the reset event (R190). -/
  | reset
  /-- another user of the channel makes `c` its configuration (R33, R210). DESIGN CHOICE, log 25: it does so between
  commands, while `PHASE = IDLE`. -/
  | otherConfigure (c : Settings)
deriving DecidableEq, Repr

/-- Why the machine stops. The framer has no trap and every failure of a command is a value of `STATUS` (R150). -/
inductive Fault where
  /-- A host write to `DATA[i]` or `IDLIST[i]` past the buffer's end (R16, R17: the element does not exist). Raised by
  `hostWrite`. Safe: the model stops where the spec gives no register. -/
  | noSuchElement
deriving DecidableEq, Repr

/-- Why a command is refused. All are safe: nothing changes, no event occurs, `STATUS` is untouched (R72, R111, U9). -/
inductive Refusal where
  /-- An instruction with no meaning yet. Raised by `exec`'s arms alone; no arm of this model raises it. Safe. -/
  | notModelled (mnemonic : String)
  /-- A command in a phase that does not accept it (R111). Raised by the phase check of each command. Safe. -/
  | wrongPhase
  /-- A descriptor that is not a well-formed request (R71, U2). Raised by ENCODE, CHECKSUM, SEND, TRANSACT. Safe. -/
  | notWellFormed
  /-- `expectedParamCount` above 253 (R70, R72). Raised by RECEIVE, TRANSACT. Safe. -/
  | countOutOfRange
  /-- A reserved command code (R72, U11). Raised by the seven reserved rows. Safe. -/
  | reservedCommand
  /-- DECODE issued by the host (R69, R111). Raised by DECODE. Safe. -/
  | decodeByHost
  /-- A command while another one has not returned (R131). Raised by every command when the engine is stuck. Safe. -/
  | commandRunning
  /-- Bytes that are no instruction (log 15). Raised by `step` where the decoder refuses. Safe. -/
  | undecodable (e : DecodeError)
  /-- Reset while `PHASE ≠ IDLE`, which is not offered (R190, U16). Raised by `step`. Safe. -/
  | resetInTransaction
  /-- Another user sets the channel's configuration while `PHASE ≠ IDLE`, when it belongs to the engine (R33, R210); not
  offered (log 25). Raised by `step`. Safe. -/
  | channelOwnedByEngine
deriving DecidableEq, Repr

/-- The machine. -/
structure State where
  /-- the descriptor (R10). -/
  desc : Desc
  /-- `PHASE` (R21). -/
  phase : Phase
  /-- `POLLCNT` (R22). -/
  pollcnt : Nat
  /-- `EXPID` (R23). -/
  expId : Byte
  /-- `EXPCNT` (R23). -/
  expCnt : Nat
  /-- `HDR[0..4]` (R24). -/
  hdr : Vector Byte Config.hdrLen
  /-- `BUS_EN` (R25). -/
  busEn : Bool
  /-- `DIR` (R26). -/
  dir : Bool
  /-- `SAVED_CFG` (R27). -/
  savedCfg : Settings
  /-- `SAVED_VALID` (R27). -/
  savedValid : Bool
  /-- `TAP_FN` (R28). -/
  tapFn : TapFn
  /-- `TAP_CTX` (R28). -/
  tapCtx : TapCtx
  /-- `TAP_VALID` (R28). -/
  tapValid : Bool
  /-- the channel environment's state (R31). -/
  ch : Channel
  /-- the platform's parameters (R5, R29, R193; log 9). -/
  params : Params
  /-- where the running command is stuck, if it is (R126, R208; log 11). -/
  hung : Option HangPoint
  /-- what the last command that returns a value returned (R69; log 14). -/
  result : CmdResult
  /-- the event history, oldest first (R50). -/
  events : List Event
  /-- the recorded refusals, oldest first (R111, U9; log 13). -/
  refusals : List Refusal
  /-- the MODEL's own: what host and platform do next (log 3). -/
  inputs : List Input
  /-- the MODEL's own: the environment's next moves (log 4). -/
  env : List EnvMove
  /-- the MODEL's own: how many free values have been drawn (log 5). -/
  free : Nat
deriving DecidableEq, Repr

/-- The descriptor at reset: unspecified by R32, zero in every register (DESIGN CHOICE, log 6). -/
def Desc.reset : Desc :=
  { id := 0, len := 0, instr := 0, addr := 0, pcnt := 0, data := Vector.replicate _ 0
    idlist := Vector.replicate _ 0, idn := 0, cksum := 0, status := 0 }

/-- The machine right after reset (R32, R190). What R32 leaves unspecified holds the value its log entry names. -/
def State.reset : State :=
  { desc := Desc.reset
    phase := .idle
    pollcnt := 0
    expId := 0
    expCnt := 0
    hdr := Vector.replicate _ 0
    busEn := true
    dir := !Config.params.dirTxLevel
    savedCfg := ⟨0, .none, 0, 0, 0, 0⟩
    savedValid := false
    tapFn := .empty
    tapCtx := ⟨0⟩
    tapValid := false
    ch := ⟨Config.cfgAtReset, Config.rxAtReset, Config.txAtReset⟩
    params := Config.params
    hung := none
    result := .none
    events := [.dir (!Config.params.dirTxLevel)]
    refusals := []
    inputs := []
    env := []
    free := 0 }

end Sys2Proof.Machine
end

