-- ==== Sys2Proof/Machine/Flags.lean ====
section
/-! DEFINITION. The flags of `STATUS` (spec/10_state.md R20): one bit each, and the values the rules write
(R20, spec/60_exceptions.md R151). Bits 5 to 7 are reserved: no rule sets them. The register has all eight bits, and
keeps in bits 5 to 7 what the host wrote or a reset left (DESIGN CHOICE, log 26). -/

namespace Sys2Proof.Machine.Flag

/-- `OK`: no flag (R20). -/
def ok : Byte := 0x00
/-- `TIMEOUT`: "insufficient bytes within the deadline" (R20). -/
def timeout : Byte := 0x01
/-- `CHECKSUM_ERROR`: the recomputed checksum differs from the received one (R20). -/
def checksumError : Byte := 0x02
/-- `COM_ERROR`: framing, id or length mismatch, or channel reconfiguration failure (R20). -/
def comError : Byte := 0x04
/-- `INTERNAL`: applying `PROTO_CFG` failed (R20). -/
def internal : Byte := 0x08
/-- `FAIL`: the bus-enable flag was false at `BEGIN` (R20). -/
def fail : Byte := 0x10
/-- `COM_ERROR | TIMEOUT`: errors E3, E4, E8, E9 (R151). -/
def comTimeout : Byte := comError ||| timeout
/-- `COM_ERROR | INTERNAL`: error E2 (R114, R151; 90_conflicts.md C1). -/
def comInternal : Byte := comError ||| internal
/-- A flag is a member of a status value (R20). -/
def mem (flag status : Byte) : Bool := status &&& flag ≠ 0

end Sys2Proof.Machine.Flag
end

