-- ==== Sys2Proof/Machine/Operands.lean ====
section
/-! DEFINITION. The operand forms: the descriptor as a request (spec/30_encoding.md R61 to R67, R71), its checksum
(spec/40_codec.md R90, R91) and packet (R93), and the one immediate operand with a range (R70). -/

namespace Sys2Proof.Machine

/-- Element `i` of a byte buffer (R30: indexed from 0). -/
def readBuf {n : Nat} (v : Vector Byte n) (i : Nat) : Byte := v.toList.getD i 0

/-- `A[0..|bs|−1] <- bs`: the elements beyond keep their values (R8, R100). -/
def overwrite {n : Nat} (v : Vector Byte n) (bs : List Byte) : Vector Byte n :=
  ⟨((bs ++ v.toList.drop bs.length).take n).toArray, by simp; omega⟩

/-- `A[i] <- b`; an index past the end changes nothing here (the host's access to one is refused by `hostWrite`). -/
def writeBuf {n : Nat} (v : Vector Byte n) (i : Nat) (b : Byte) : Vector Byte n :=
  ⟨(v.toList.set i b).toArray, by simp⟩

/-- A field of the request is present exactly when its register is not the sentinel (R65). -/
def present (b : Byte) : Bool := b ≠ Config.absent

/-- `n = [ADDR ≠ 255] + [PCNT ≠ 255]` (R61, R64). -/
def Desc.nPresent (d : Desc) : Nat := (present d.addr).toNat + (present d.pcnt).toNat

/-- The flat payload `DATA[0..p−1]`, `p = LEN − 2 − n` (R65). -/
def Desc.flatPayload (d : Desc) : List Byte := d.data.toList.take (d.len.toNat - 2 - d.nPresent)

/-- Group `g` of a sync write: `IDLIST[g]`, then `DATA[g×S .. g×S+S−1]` with `S = PCNT` (R66). -/
def Desc.group (d : Desc) (g : Nat) : Byte × List Byte :=
  (readBuf d.idlist g, (d.data.toList.drop (g * d.pcnt.toNat)).take d.pcnt.toNat)

/-- The groups of a sync write in wire order (R66). -/
def Desc.groups (d : Desc) : List (Byte × List Byte) := (List.range d.idn.toNat).map d.group

/-- The payload on the wire: flat when `IDN = 0` (R65), groups otherwise (R66). -/
def Desc.payload (d : Desc) : List Byte := if d.idn = 0 then d.flatPayload else groupBytes d.groups

/-- The optional fields on the wire, in order (R60): the address byte, then the parameter-count byte. -/
def Desc.optionals (d : Desc) : List Byte :=
  (if present d.addr then [d.addr] else []) ++ (if present d.pcnt then [d.pcnt] else [])

/-- The bytes between the instruction byte and the checksum byte (R60, R64). -/
def Desc.between (d : Desc) : List Byte := d.optionals ++ d.payload

/-- The covered bytes of the checksum: id, length, instruction, and all that follows before the checksum (R67). -/
def Desc.covered (d : Desc) : List Byte := [d.id, d.len, d.instr] ++ d.between

/-- The low byte of the bitwise complement of a sum: `(~s)[7:0]` (R90, R91). -/
def complementByte (sum : Nat) : Byte := ~~~ BitVec.ofNat 8 sum

/-- `CHECKSUM(desc)` (R90). -/
def Desc.checksum (d : Desc) : Byte := complementByte (byteSum d.covered)

/-- The bytes `ENCODE(desc)` returns (R93). -/
def Desc.packet (d : Desc) : List Byte := packetBytes d.id d.len d.instr d.between d.checksum

/-- The wire form the encoder chooses, from the descriptor and not from the instruction byte (R62). -/
def Desc.form (d : Desc) : Instr :=
  if d.idn = 0 then
    match present d.addr, present d.pcnt with
    | false, false => .reqPlain d.id d.len d.instr d.flatPayload d.checksum
    | true, false => .reqAddr d.id d.len d.instr d.addr d.flatPayload d.checksum
    | false, true => .reqPcnt d.id d.len d.instr d.pcnt d.flatPayload d.checksum
    | true, true => .reqAddrPcnt d.id d.len d.instr d.addr d.pcnt d.flatPayload d.checksum
  else
    .reqSync d.id d.len d.instr (if present d.addr then some d.addr else none) d.pcnt d.groups d.checksum

/-- `WF(desc)`: the descriptor is a well-formed request (R71). -/
def Desc.wf (d : Desc) : Bool :=
  d.id ≤ Config.idBroadcast
    && Config.lenMin + d.nPresent ≤ d.len.toNat && d.len.toNat ≤ Config.lenMax
    && (d.idn == 0
        || (d.idn != 0 && d.id == Config.idBroadcast && present d.pcnt
            && d.len.toNat - 2 - d.nPresent == d.idn.toNat * (d.pcnt.toNat + 1)
            && d.idn.toNat ≤ Config.idlistCap && d.idn.toNat * d.pcnt.toNat ≤ Config.dataCap))

/-- `0 ≤ expectedParamCount ≤ 253` (R70). -/
def countInRange (n : Nat) : Bool := n ≤ Config.countMax

end Sys2Proof.Machine
end

