-- ==== Sys2Proof/Machine/Ops.lean ====
section
/-! DEFINITION. The named operations every command is built from: the channel and line primitives with their events
(spec/20_memory.md R43 to R50, spec/60_exceptions.md R170 to R177), the tap (spec/42_tap.md R142), the availability poll
(spec/41_engine.md R121), the error mechanism (R158), the refusal (R111), and the inputs that are not commands: host
register writes (R10), the bus-enable flag (R25), reset (R190), another user's configuration of the channel (R33), a
packet that arrives (R31). -/

namespace Sys2Proof.Machine

/-- Append an event to the history (R50). -/
def emit (e : Event) (s : State) : State := { s with events := s.events ++ [e] }

/-- The environment's next move; when the script has run out: silence, honest answers, every `configure` succeeds,
every `flush` returns (log 4). -/
def nextMove (s : State) : EnvMove := s.env.headD {}

/-- The environment moves: the bytes of its move arrive in `ch.rx`, and the move is used up (R42, R174). -/
def envTick (s : State) : State :=
  { s with ch := { s.ch with rx := s.ch.rx ++ (nextMove s).arrive }, env := s.env.tail }

/-- Bytes arrive in the receive stream (R31: grown by the environment at any time). -/
def arrive (bs : List Byte) (s : State) : State :=
  { s with ch := { s.ch with rx := s.ch.rx ++ bs } }

/-- `ChDrain()` (R46): every byte in `ch.rx` at the moment of the call is gone. -/
def chDrain (s : State) : State :=
  let s := envTick s
  emit .drain { s with ch := { s.ch with rx := [] } }

/-- `ChGetConfig()` (R172): the active configuration. -/
def chGetConfig (s : State) : Settings × State :=
  let s := envTick s
  (s.ch.cfg, emit (.cfgGet s.ch.cfg) s)

/-- `ChConfigure(c)` (R171): on success the channel has `c`; on failure what it has is a free value (U4, log 5). -/
def chConfigure (c : Settings) (s : State) : Bool × State :=
  let ok := (nextMove s).configureOk
  let s := envTick s
  if ok then (true, emit (.cfgSet c true) { s with ch := { s.ch with cfg := c } })
  else (false, emit (.cfgSet c false)
    { s with ch := { s.ch with cfg := Config.cfgAfterFailedConfigure s.free }, free := s.free + 1 })

/-- `ChWrite(bytes)` (R43): the channel accepts every byte; the count is ignored (decision D17). -/
def chWrite (bs : List Byte) (s : State) : State :=
  let s := envTick s
  emit (.tx bs) { s with ch := { s.ch with tx := s.ch.tx ++ bs } }

/-- `ChFlush()` (R47): returns when `ch.tx` is empty; a channel that never drains leaves the command stuck (R208). -/
def chFlush (s : State) : State :=
  let returns := (nextMove s).flushReturns
  let s := envTick s
  if returns then emit .flush { s with ch := { s.ch with tx := [] } }
  else { s with hung := some .flush }

/-- `ChAvail()` (R45, R174). -/
def chAvail (s : State) : Nat × State :=
  let answer := (nextMove s).avail
  let s := envTick s
  let a := answer.getD s.ch.rx.length
  (a, emit (.avail a) s)

/-- `Sleep(POLL_US)` (R48): its one effect on the framer is `POLLCNT <- POLLCNT + 1`. -/
def pollSleep (s : State) : State :=
  let s := envTick s
  emit (.sleep Config.pollUs) { s with pollcnt := s.pollcnt + 1 }

/-- `ChRead(n)` (R44, R175): the first `k ≤ n` bytes of `ch.rx` are removed and returned. In `RAW_UNBOUNDED` mode a
read that would be short never returns: the bytes there have been fetched one by one, and there is no `Rx` event (R126,
U6, log 11). -/
def chRead (n : Nat) (s : State) : List Byte × State :=
  let limit := (nextMove s).readLimit
  let s := envTick s
  let bs := s.ch.rx.take (min n (limit.getD n))
  let s := { s with ch := { s.ch with rx := s.ch.rx.drop bs.length } }
  if bs.length < n ∧ s.params.rxByteMode = .rawUnbounded then ([], { s with hung := some .rawRead })
  else (bs, emit (.rx n bs.length bs) s)

/-- `DirSet(level)` and `DIR <- level` (R116, R177). -/
def dirSet (level : Bool) (s : State) : State := emit (.dir level) { s with dir := level }

/-- `Tap(bytes)` (R142): the registered subscriber gets a copy. -/
def tap (bs : List Byte) (s : State) : State :=
  if s.tapValid then emit (.tap s.tapFn s.tapCtx bs) s else s

/-- A `ChRead`, then `Tap` of the bytes when there is at least one (R44, R142). -/
def readAndTap (n : Nat) (s : State) : List Byte × State :=
  let r := chRead n s
  (r.1, if r.1.length = 0 then r.2 else tap r.1 r.2)

/-- The availability poll with `fuel` sleeps left: ask; succeed at 5 or more; else sleep and ask again (R119, R121). -/
def poll : Nat → State → Bool × State
  | 0, s =>
    let r := chAvail s
    (decide (Config.hdrLen ≤ r.1), r.2)
  | fuel + 1, s =>
    let r := chAvail s
    if Config.hdrLen ≤ r.1 then (true, r.2) else poll fuel (pollSleep r.2)

/-- `STATUS <- flags`: with the return that follows it in the pseudocode, the whole of the error mechanism (R158). -/
def setStatus (flags : Byte) (s : State) : State := { s with desc := { s.desc with status := flags } }

/-- `CKSUM <- b` (R18). -/
def setCksum (b : Byte) (s : State) : State := { s with desc := { s.desc with cksum := b } }

/-- `DATA[0..|bs|−1] <- bs` (R100). -/
def setData (bs : List Byte) (s : State) : State :=
  { s with desc := { s.desc with data := overwrite s.desc.data bs } }

/-- What a command returned to the host (R69). -/
def setResult (r : CmdResult) (s : State) : State := { s with result := r }

/-- The engine is inside a command that never returns (R126, R131). -/
def State.stuck (s : State) : Bool := s.hung.isSome

/-- The admission of a command (R111): no other command runs (R131), and the phase accepts it; else it is refused with
the state unchanged. -/
def acceptIn (phases : List Phase) (s : State) (run : Host.Outcome State Fault Refusal) :
    Host.Outcome State Fault Refusal :=
  if s.stuck then .refused .commandRunning
  else if s.phase ∈ phases then run
  else .refused .wrongPhase

/-- Every phase accepts `END`, `SETTAP`, `CHECKSUM`, `ENCODE` (R111). -/
def anyPhase : List Phase := [.idle, .reserved, .sending, .receiving]

/-- `require c -- else refuse` (R8, R71, R70). -/
def require (c : Bool) (why : Refusal) (run : Host.Outcome State Fault Refusal) : Host.Outcome State Fault Refusal :=
  if c then run else .refused why

/-- A refused command leaves its record and nothing else (R111, U9; log 13). -/
def recordRefusal (r : Refusal) (s : State) : State := { s with refusals := s.refusals ++ [r] }

/-- The host writes a descriptor register, in any phase (R10, R33, U19); an element that does not exist faults.
`STATUS` keeps all eight bits of the value (R20, U12; DESIGN CHOICE, log 26). -/
def hostWrite (r : DescReg) (v : Byte) (s : State) : Host.Outcome State Fault Refusal :=
  match r with
  | .id => .next { s with desc := { s.desc with id := v } }
  | .len => .next { s with desc := { s.desc with len := v } }
  | .instr => .next { s with desc := { s.desc with instr := v } }
  | .addr => .next { s with desc := { s.desc with addr := v } }
  | .pcnt => .next { s with desc := { s.desc with pcnt := v } }
  | .data i =>
    if i < Config.dataCap then .next { s with desc := { s.desc with data := writeBuf s.desc.data i v } }
    else .fault .noSuchElement
  | .idlist i =>
    if i < Config.idlistCap then .next { s with desc := { s.desc with idlist := writeBuf s.desc.idlist i v } }
    else .fault .noSuchElement
  | .idn => .next { s with desc := { s.desc with idn := v } }
  | .cksum => .next { s with desc := { s.desc with cksum := v } }
  | .status => .next { s with desc := { s.desc with status := v } }

/-- The platform sets the bus-enable flag (R25). -/
def setBusEnable (b : Bool) (s : State) : State := { s with busEn := b }

/-- The channel has the configuration `c` (R31). -/
def setChannelCfg (c : Settings) (s : State) : State := { s with ch := { s.ch with cfg := c } }

/-- Another user of the channel sets its configuration, which is that party's while `PHASE = IDLE` and the engine's
otherwise (R33, R210; log 25). No event of R50 occurs: the framer makes no call. -/
def otherConfigure (c : Settings) (s : State) : Host.Outcome State Fault Refusal :=
  if s.phase = .idle then .next (setChannelCfg c s) else .refused .channelOwnedByEngine

/-- The descriptor after a reset input: free bytes (R32, U3; log 12), all eight bits of `STATUS` among them (DESIGN
CHOICE, log 26). -/
def descAfterReset (f : Nat) : Desc :=
  { id := Config.byteAfterReset f
    len := Config.byteAfterReset (f + 1)
    instr := Config.byteAfterReset (f + 2)
    addr := Config.byteAfterReset (f + 3)
    pcnt := Config.byteAfterReset (f + 4)
    idn := Config.byteAfterReset (f + 5)
    cksum := Config.byteAfterReset (f + 6)
    status := Config.byteAfterReset (f + 7)
    data := Vector.ofFn fun i => Config.byteAfterReset (f + 16 + i)
    idlist := Vector.ofFn fun i => Config.byteAfterReset (f + 272 + i) }

/-- `RESET` (R190) as an event of a running system: the five values the rule gives, one `Dir` event, the channel
untouched, every other register a free value (R32, U3; log 12). -/
def resetEvent (s : State) : State :=
  let f := s.free
  dirSet (!s.params.dirTxLevel)
    { s with
      desc := descAfterReset f
      phase := .idle
      pollcnt := 0
      expId := Config.byteAfterReset (f + 8)
      expCnt := Config.countAfterReset f % (Config.countMax + 1)
      hdr := Vector.ofFn fun i => Config.byteAfterReset (f + 9 + i)
      savedCfg := Config.cfgAfterReset f
      savedValid := false
      tapFn := Config.tapFnAfterReset f
      tapCtx := Config.tapCtxAfterReset f
      tapValid := false
      free := f + 1024 }

/-- A reset input is offered only while `PHASE = IDLE` (R190, U16). -/
def hostReset (s : State) : Host.Outcome State Fault Refusal :=
  if s.phase = .idle then .next (resetEvent s) else .refused .resetInTransaction

end Sys2Proof.Machine
end

