-- ==== Sys2Proof/Machine/Codec.lean ====
section
/-! DEFINITION. The codec: CHECKSUM, ENCODE, DECODE (spec/40_codec.md R90 to R103). `decodeResponse` is the DECODE that
runs inside RECEIVE; the DECODE of the opcode table is the host's, which every phase refuses (spec/41_engine.md R111). -/

namespace Sys2Proof.Machine

/-- `CKSUM <- CHECKSUM(desc)`, the one register ENCODE writes (R93). -/
def writeChecksum (s : State) : State := setCksum s.desc.checksum s

/-- Step 0 of DECODE, field capture (R96). -/
def captureHeader (s : State) : State :=
  { s with desc := { s.desc with
      id := readBuf s.hdr 2, len := readBuf s.hdr 3, instr := readBuf s.hdr 4
      addr := Config.absent, pcnt := Config.absent, idn := 0 } }

/-- Check (e): the recomputed checksum against the received one (R102). -/
def checkChecksum (s : State) : State :=
  setStatus (if s.desc.checksum = s.desc.cksum then Flag.ok else Flag.checksumError) s

/-- Stage (d), second part: the checksum byte, under its own timeout (R101), then check (e). -/
def checksumStage (s : State) : State :=
  let r := readAndTap 1 s
  if r.2.stuck then r.2
  else match r.1 with
    | [] => setStatus Flag.comTimeout r.2
    | c :: _ => checkChecksum (setCksum c r.2)

/-- Stage (d), first part: `EXPCNT` payload bytes; no read when `EXPCNT = 0` (R100). -/
def payloadStage (s : State) : State :=
  if s.expCnt = 0 then checksumStage s
  else
    let r := readAndTap s.expCnt s
    if r.2.stuck then r.2
    else if r.1.length < s.expCnt then setStatus Flag.comTimeout (setData r.1 r.2)
    else checksumStage (setData r.1 r.2)

/-- `DECODE(HDR, EXPID, EXPCNT)` as RECEIVE runs it: capture, then checks (a) to (e) in order, the first that fails
ending the decode (R95 to R102). -/
def decodeResponse (s : State) : State :=
  let s := captureHeader s
  if readBuf s.hdr 0 ≠ Config.hdr0 ∨ readBuf s.hdr 1 ≠ Config.hdr1 then setStatus Flag.comError s
  else if readBuf s.hdr 2 ≠ s.expId then setStatus Flag.comError s
  else if ((readBuf s.hdr 3).toNat : Int) - 2 ≠ (s.expCnt : Int) then setStatus Flag.comError s
  else payloadStage s

/-- `CHECKSUM` (R90): the byte is returned, no register is written; an ill-formed request is refused. -/
def execChecksum (s : State) : Host.Outcome State Fault Refusal :=
  acceptIn anyPhase s (require s.desc.wf .notWellFormed (.next (setResult (.byte s.desc.checksum) s)))

/-- `ENCODE` (R93): the packet is returned, `CKSUM` is written; an ill-formed request is refused. -/
def execEncode (s : State) : Host.Outcome State Fault Refusal :=
  acceptIn anyPhase s (require s.desc.wf .notWellFormed (.next (setResult (.bytes s.desc.packet) (writeChecksum s))))

/-- `DECODE` issued by the host: refused in every phase (R69, R111, U9). -/
def execDecode (_hdr : Vector Byte Config.hdrLen) (_expectedId : Byte) (_expectedParamCount : Nat) (_s : State) :
    Host.Outcome State Fault Refusal :=
  .refused .decodeByHost

end Sys2Proof.Machine
end

