-- ==== Sys2Proof/Machine/Engine.lean ====
section
/-! DEFINITION. The transaction engine: BEGIN, SEND, RECEIVE, END, TRANSACT (spec/41_engine.md R110 to R131). Each
operation's body stands apart from its admission, because TRANSACT runs the bodies in sequence (R129). -/

namespace Sys2Proof.Machine

/-- The body of `BEGIN` (R112 to R114): the status it returns, and the state. -/
def beginBody (s : State) : Byte × State :=
  if s.busEn then
    let got := chGetConfig (chDrain s)
    let saved := { got.2 with savedCfg := got.1, savedValid := true }
    let applied := chConfigure (Config.protoCfg saved.params) saved
    if applied.1 then (Flag.ok, { applied.2 with phase := .reserved })
    else
      let restored := chConfigure applied.2.savedCfg applied.2
      (Flag.comInternal, { restored.2 with savedValid := false })
  else (Flag.fail, s)

/-- After the flush: receive direction. A flush that never returned leaves the line in transmit direction (R208). -/
def releaseLine (s : State) : State := if s.stuck then s else dirSet (!s.params.dirTxLevel) s

/-- The body of `SEND` (R116): transmit direction, the packet with its checksum written to `CKSUM`, the flush, receive
direction. -/
def sendBody (s : State) : State :=
  let driving := dirSet s.params.dirTxLevel { s with phase := .sending }
  releaseLine (chFlush (chWrite s.desc.packet (writeChecksum driving)))

/-- After the poll: the header read (R122), then DECODE (R123). -/
def headerStage (s : State) : State :=
  let r := readAndTap Config.hdrLen s
  if r.2.stuck then r.2
  else if r.1.length < Config.hdrLen then setStatus Flag.comTimeout r.2
  else decodeResponse { r.2 with hdr := overwrite r.2.hdr r.1 }

/-- The latches of `RECEIVE` for a unicast id (R23, R54, R119): `PHASE`, `EXPID`, `EXPCNT`, `POLLCNT`. -/
def latchReceive (n : Nat) (s : State) : State :=
  { s with phase := .receiving, expId := s.desc.id, expCnt := n, pollcnt := 0 }

/-- The body of `RECEIVE` (R119 to R123). -/
def receiveBody (n : Nat) (s : State) : State :=
  if s.desc.id = Config.idBroadcast then setStatus Flag.ok s
  else
    let r := poll Config.pollMax (latchReceive n s)
    if r.1 then headerStage r.2 else setStatus Flag.comTimeout r.2

/-- The body of `END` (R127): restore what a `BEGIN` saved; the result of the restoring call is ignored (D18). -/
def endBody (s : State) : State :=
  if s.savedValid then
    let restored := chConfigure s.savedCfg s
    { restored.2 with savedValid := false, phase := .idle }
  else { s with phase := .idle }

/-- The body of `TRANSACT` (R129): BEGIN; SEND; RECEIVE; END with the early exit. A command inside it that never
returns ends nothing (R126, R131). -/
def transactBody (n : Nat) (s : State) : State :=
  let b := beginBody s
  if b.1 ≠ Flag.ok then setStatus b.1 b.2
  else
    let sent := sendBody b.2
    if sent.stuck then sent
    else
      let received := receiveBody n sent
      if received.stuck then received else endBody received

/-- `BEGIN` (R112). -/
def execBegin (s : State) : Host.Outcome State Fault Refusal :=
  acceptIn [.idle] s (.next (setResult (.status (beginBody s).1) (beginBody s).2))

/-- `SEND` (R116). -/
def execSend (s : State) : Host.Outcome State Fault Refusal :=
  acceptIn [.reserved] s (require s.desc.wf .notWellFormed (.next (sendBody s)))

/-- `RECEIVE` (R119): accepted in `SENDING`, also after a `RECEIVE` that a broadcast id skipped, which leaves the phase
`SENDING` (R111, R119; R124's last sentence names `END` alone there: DESIGN CHOICE, log 28). -/
def execReceive (expectedParamCount : Nat) (s : State) : Host.Outcome State Fault Refusal :=
  acceptIn [.sending] s (require (countInRange expectedParamCount) .countOutOfRange
    (.next (receiveBody expectedParamCount s)))

/-- `END` (R127). -/
def execEnd (s : State) : Host.Outcome State Fault Refusal :=
  acceptIn anyPhase s (.next (endBody s))

/-- What `TRANSACT` returns is `STATUS` (R129), when it returns. -/
def returnStatus (s : State) : State := if s.stuck then s else setResult (.status s.desc.status) s

/-- `TRANSACT` (R129): both requirements come before any event (D37). -/
def execTransact (expectedParamCount : Nat) (s : State) : Host.Outcome State Fault Refusal :=
  acceptIn [.idle] s (require s.desc.wf .notWellFormed (require (countInRange expectedParamCount) .countOutOfRange
    (.next (returnStatus (transactBody expectedParamCount s)))))

end Sys2Proof.Machine
end

