-- ==== Sys2Proof/Machine/Reserved.lean ====
section
/-! DEFINITION. The reserved command codes `0x0` and `0xA` to `0xF`: refused, nothing changes (spec/30_encoding.md R72,
93_implementation_defined.md U11). -/

namespace Sys2Proof.Machine

/-- A reserved command code is refused (R72, U11). -/
def refuseReserved (_s : State) : Host.Outcome State Fault Refusal := .refused .reservedCommand

/-- Command code `0x0` (R72). -/
def execReserved0 (s : State) : Host.Outcome State Fault Refusal := refuseReserved s
/-- Command code `0xA` (R72). -/
def execReservedA (s : State) : Host.Outcome State Fault Refusal := refuseReserved s
/-- Command code `0xB` (R72). -/
def execReservedB (s : State) : Host.Outcome State Fault Refusal := refuseReserved s
/-- Command code `0xC` (R72). -/
def execReservedC (s : State) : Host.Outcome State Fault Refusal := refuseReserved s
/-- Command code `0xD` (R72). -/
def execReservedD (s : State) : Host.Outcome State Fault Refusal := refuseReserved s
/-- Command code `0xE` (R72). -/
def execReservedE (s : State) : Host.Outcome State Fault Refusal := refuseReserved s
/-- Command code `0xF` (R72). -/
def execReservedF (s : State) : Host.Outcome State Fault Refusal := refuseReserved s

end Sys2Proof.Machine
end

