-- ==== Sys2Proof/Machine/Tap.lean ====
section
/-! DEFINITION. The tap's registration, SETTAP (spec/42_tap.md R140, R141). Delivery is `tap` of Ops.lean (R142). -/

namespace Sys2Proof.Machine

/-- `SETTAP` (R140): an empty callback changes nothing; any other replaces the subscriber. Accepted in every phase. -/
def execSetTap (fn : TapFn) (ctx : TapCtx) (s : State) : Host.Outcome State Fault Refusal :=
  acceptIn anyPhase s (.next (if fn = .empty then s else { s with tapFn := fn, tapCtx := ctx, tapValid := true }))

end Sys2Proof.Machine
end

