-- ==== Sys2Proof/Machine/Wire.lean ====
section
/-! DEFINITION. The six wire forms (spec/30_encoding.md R60 to R66): a packet of that form is on the shared line and its
bytes arrive in the receive stream (spec/00_scope.md R7 (3), spec/10_state.md R31; a request form is what the line
echoes, spec/70_reset_and_hazards.md R205). The engine does nothing by itself: it learns of received bytes only by
asking (spec/60_exceptions.md R152). No event of R50 occurs, no register changes. Log 2. -/

namespace Sys2Proof.Machine

/-- `REQ_PLAIN`: the payload follows the instruction byte (R62). -/
def execReqPlain (id len instr : Byte) (data : List Byte) (cksum : Byte) (s : State) :
    Host.Outcome State Fault Refusal :=
  .next (arrive (packetBytes id len instr data cksum) s)

/-- `REQ_ADDR`: the address byte, then the payload (R62). -/
def execReqAddr (id len instr addr : Byte) (data : List Byte) (cksum : Byte) (s : State) :
    Host.Outcome State Fault Refusal :=
  .next (arrive (packetBytes id len instr (addr :: data) cksum) s)

/-- `REQ_PCNT`: the parameter-count byte, then the payload (R62). -/
def execReqPcnt (id len instr pcnt : Byte) (data : List Byte) (cksum : Byte) (s : State) :
    Host.Outcome State Fault Refusal :=
  .next (arrive (packetBytes id len instr (pcnt :: data) cksum) s)

/-- `REQ_ADDR_PCNT`: the address byte, the parameter-count byte, then the payload (R62). -/
def execReqAddrPcnt (id len instr addr pcnt : Byte) (data : List Byte) (cksum : Byte) (s : State) :
    Host.Outcome State Fault Refusal :=
  .next (arrive (packetBytes id len instr (addr :: pcnt :: data) cksum) s)

/-- `REQ_SYNC`: the address byte if present, the parameter-count byte, then the groups (R62, R66). -/
def execReqSync (id len instr : Byte) (addr : Option Byte) (pcnt : Byte) (groups : List (Byte × List Byte))
    (cksum : Byte) (s : State) : Host.Outcome State Fault Refusal :=
  .next (arrive (packetBytes id len instr (addr.toList ++ pcnt :: groupBytes groups) cksum) s)

/-- `RESP`: the parameters follow the device status byte (R63). -/
def execResp (id len status : Byte) (params : List Byte) (cksum : Byte) (s : State) :
    Host.Outcome State Fault Refusal :=
  .next (arrive (packetBytes id len status params cksum) s)

end Sys2Proof.Machine
end

