-- ==== Sys2Proof/Machine/Dispatch.lean ====
section
/-! DEFINITION. The dispatch: one arm per row of spec/opcode_table.json. -/

namespace Sys2Proof.Machine

def exec (i : Instr) (s : State) : Host.Outcome State Fault Refusal :=
  match i with
  | .beginTxn => Sys2Proof.Machine.execBegin s
  | .send => Sys2Proof.Machine.execSend s
  | .receive n => Sys2Proof.Machine.execReceive n s
  | .endTxn => Sys2Proof.Machine.execEnd s
  | .transact n => Sys2Proof.Machine.execTransact n s
  | .setTap fn ctx => Sys2Proof.Machine.execSetTap fn ctx s
  | .checksum => Sys2Proof.Machine.execChecksum s
  | .encode => Sys2Proof.Machine.execEncode s
  | .decode hdr id n => Sys2Proof.Machine.execDecode hdr id n s
  | .reserved0 => Sys2Proof.Machine.execReserved0 s
  | .reservedA => Sys2Proof.Machine.execReservedA s
  | .reservedB => Sys2Proof.Machine.execReservedB s
  | .reservedC => Sys2Proof.Machine.execReservedC s
  | .reservedD => Sys2Proof.Machine.execReservedD s
  | .reservedE => Sys2Proof.Machine.execReservedE s
  | .reservedF => Sys2Proof.Machine.execReservedF s
  | .reqPlain id len instr data ck => Sys2Proof.Machine.execReqPlain id len instr data ck s
  | .reqAddr id len instr addr data ck => Sys2Proof.Machine.execReqAddr id len instr addr data ck s
  | .reqPcnt id len instr pcnt data ck => Sys2Proof.Machine.execReqPcnt id len instr pcnt data ck s
  | .reqAddrPcnt id len instr addr pcnt data ck => Sys2Proof.Machine.execReqAddrPcnt id len instr addr pcnt data ck s
  | .reqSync id len instr addr pcnt groups ck => Sys2Proof.Machine.execReqSync id len instr addr pcnt groups ck s
  | .resp id len status params ck => Sys2Proof.Machine.execResp id len status params ck s

end Sys2Proof.Machine
end

