-- ==== Sys2Proof/Machine/Inputs.lean ====
section
/-! DEFINITION. What one input of the machine does: a command or packet is decoded and executed, a host write, a change
of the bus-enable flag, a reset and another user's configuration of the channel are applied (spec/00_scope.md R7,
spec/10_state.md R10, R25, R33, spec/41_engine.md R111, spec/70_reset_and_hazards.md R190, R210). -/

namespace Sys2Proof.Machine

/-- A command's outcome as the machine takes it: a refused command leaves its record and the machine goes on to the
host's next input (R111, U9; 95_test_vectors.md program P8; log 13). -/
def afterCommand (s : State) : Host.Outcome State Fault Refusal → Host.Outcome State Fault Refusal
  | .next t => .next t
  | .fault f => .fault f
  | .refused r => .next (recordRefusal r s)

/-- What one input does. -/
def runInput (input : Input) (s : State) : Host.Outcome State Fault Refusal :=
  match input with
  | .instr bytes =>
    match decode bytes with
    | .ok (i, _) => afterCommand s (exec i s)
    | .error e => .refused (.undecodable e)
  | .write r v => hostWrite r v s
  | .busEnable b => .next (setBusEnable b s)
  | .reset => hostReset s
  | .otherConfigure c => otherConfigure c s

end Sys2Proof.Machine
end

