-- ==== Sys2Proof/Machine/Step.lean ====
section
/-! DEFINITION. One step of the machine: the next input of the host, the platform or the line (spec/00_scope.md R7), one
atomic command at a time (spec/60_exceptions.md R164, spec/41_engine.md R131). -/

namespace Sys2Proof.Machine

/-- One step. An engine stuck in a command stays so for ever (R126, R208); with no input the machine waits; otherwise
the next input is taken. -/
def step (s : State) : Host.Outcome State Fault Refusal :=
  if s.stuck then .next s
  else
    match s.inputs with
    | [] => .next s
    | input :: rest => runInput input { s with inputs := rest }

/-- `s` with an instruction of the opcode table as the next input, and no earlier command still running, so that the
next step runs it (log 3). -/
def State.withFetchWord (s : State) (nbits w : Nat) : State :=
  { s with inputs := .instr (tableBytes nbits w) :: s.inputs, hung := none }

end Sys2Proof.Machine
end

