-- ==== Sys2Proof/Machine/Reference.lean ====
section
/-! DEFINITION. The reference environment for tests (spec/60_exceptions.md R176): a scripted device as moves of the
channel environment. It is not part of the framer and carries no claim about real devices. -/

namespace Sys2Proof.Machine

/-- When a reply's bytes are in `ch.rx` (R176). -/
inductive DelayClass where
  /-- before the first `ChAvail`. -/
  | prompt
  /-- after the `j`-th sleep of the poll, `1 ≤ j ≤ POLL_MAX`. -/
  | late (j : Nat) (h : 1 ≤ j ∧ j ≤ Config.pollMax)
  /-- while a `ChRead` waits, within its budget. -/
  | duringRead
  /-- not at all. -/
  | never
deriving DecidableEq, Repr

/-- A reply of a scripted device. -/
abbrev Reply := DelayClass × List Byte

/-- A scripted device: from the request bytes seen on `Tx` to its replies (R176). -/
abbrev Device := List Byte → List Reply

/-- What a reply brings to the poll's `j`-th asking, counted from 0: a prompt reply to the first, a `late(j)` reply to
the one that follows the `j`-th sleep. -/
def atAsking (j : Nat) : Reply → List Byte
  | (.prompt, bs) => if j = 0 then bs else []
  | (.late k _, bs) => if k = j then bs else []
  | (.duringRead, _) => []
  | (.never, _) => []

/-- What a reply brings to a read that waits. -/
def atWaitingRead : Reply → List Byte
  | (.duringRead, bs) => bs
  | (.prompt, _) => []
  | (.late _ _, _) => []
  | (.never, _) => []

/-- The moves of the poll from its `j`-th asking on, with `queued` bytes in `ch.rx` and `fuel` sleeps left: one for each
asking and each sleep. The poll, and with it the script, ends at the first asking that finds a header. -/
def pollMoves (replies : List Reply) (j queued : Nat) : Nat → List EnvMove
  | 0 => [{ arrive := replies.flatMap (atAsking j) }]
  | fuel + 1 =>
    let bs := replies.flatMap (atAsking j)
    if Config.hdrLen ≤ queued + bs.length then [{ arrive := bs }]
    else { arrive := bs } :: {} :: pollMoves replies (j + 1) (queued + bs.length) fuel

/-- An event of a read that got every byte it asked for. -/
def Event.isFullRead : Event → Bool
  | .rx n k _ => n == k
  | _ => false

/-- An event of a read that waited in vain. -/
def Event.isShortRead : Event → Bool
  | .rx n k _ => n != k
  | _ => false

/-- The moves of one `RECEIVE`: those of the poll; then, if a read would wait, none for the reads before it and the
`during_read` bytes for it. Which read that is, is seen by running the `RECEIVE` without those bytes. For a broadcast
there is no asking, no sleep and no read (R120): prompt bytes come with the next primitive, which is the restoring
`ChConfigure`, and stay in `ch.rx` as R212 says; the other classes bring nothing (DESIGN CHOICE, log 27). -/
def replyMoves (replies : List Reply) (n : Nat) (s : State) : List EnvMove :=
  if s.desc.id = Config.idBroadcast then [{ arrive := replies.flatMap (atAsking 0) }]
  else
    let asked := pollMoves replies 0 s.ch.rx.length Config.pollMax
    let alone := receiveBody n { s with env := asked, events := [] }
    if alone.stuck || alone.events.any Event.isShortRead then
      asked ++ List.replicate (alone.events.countP Event.isFullRead) ({} : EnvMove)
        ++ [{ arrive := replies.flatMap atWaitingRead }]
    else asked

/-- The moves of a whole `TRANSACT` against a device: none for the drain, the save, the configuration, the write and the
flush, then those of the `RECEIVE`. -/
def transactMoves (device : Device) (n : Nat) (s : State) : List EnvMove :=
  if s.busEn then
    List.replicate 5 ({} : EnvMove)
      ++ replyMoves (device s.desc.packet) n (sendBody (beginBody { s with env := [] }).2)
  else []

end Sys2Proof.Machine
end

