-- ==== Sys2Proof/Safety.lean ====
section
/-! DEFINITION. What counts as a safe run, in the terms the statements use: the framer's invariant, the states a run can
reach, an honest and quiet channel environment, and the events of one kind. -/

namespace Sys2Proof.Machine

/-- The framer's invariant, at every point where no command is running or one is stuck for ever. -/
structure State.Inv (s : State) : Prop where
  /-- "`SAVED_VALID = 1` exactly when `PHASE ≠ IDLE`" (R27). -/
  saved_iff_open : s.savedValid = true ↔ s.phase ≠ .idle
  /-- `POLLCNT` is in `0..POLL_MAX` (R22). -/
  pollcnt_bound : s.pollcnt ≤ Config.pollMax
  /-- `EXPCNT` is in `0..253` (R23). -/
  expCnt_bound : s.expCnt ≤ Config.countMax
  /-- The line is in receive direction between commands (R26, R154), unless a flush is stuck (R208). -/
  line_released : s.hung = some .flush ∨ s.dir = !s.params.dirTxLevel
  /-- The channel has the protocol's configuration while a transaction is open (R115, R154, R210). -/
  channel_in_proto : s.phase ≠ .idle → s.ch.cfg = Config.protoCfg s.params
  /-- A stuck flush holds the line in transmit direction in phase `SENDING` (R116, R208). -/
  stuck_in_flush : s.hung = some .flush → s.phase = .sending ∧ s.dir = s.params.dirTxLevel
  /-- A raw read is stuck in phase `RECEIVING`, and only in `RAW_UNBOUNDED` mode (R126). -/
  stuck_in_read : s.hung = some .rawRead → s.phase = .receiving ∧ s.params.rxByteMode = .rawUnbounded

/-- The states a run from reset can reach, whatever the host, the platform and the environment do next: before each
step the agents' coming moves may be any. -/
inductive Reachable : State → Prop
  | reset : Reachable State.reset
  | agents (s : State) (inputs : List Input) (env : List EnvMove) :
      Reachable s → Reachable { s with inputs := inputs, env := env }
  | step (s t : State) : Reachable s → step s = .next t → Reachable t

/-- No move of the script makes bytes arrive, and every answer is honest: the queue model of R174 (b) with nothing
arriving. Whether `configure` succeeds and `flush` returns is not said. -/
def EnvMove.quiet (m : EnvMove) : Bool := m.arrive == [] && m.avail == none && m.readLimit == none

/-- The whole script is quiet. -/
def State.quietChannel (s : State) : Bool := s.env.all EnvMove.quiet

/-- Every coming `configure` succeeds and every `flush` returns. -/
def State.soundChannel (s : State) : Bool := s.env.all fun m => m.configureOk && m.flushReturns

/-- A state with no command running, in one of the given phases (R111). -/
def State.ready (s : State) (phases : List Phase) : Prop := s.hung = none ∧ s.phase ∈ phases

/-- An event is a delivery to the tap (R142). -/
def Event.isTap : Event → Bool
  | .tap _ _ _ => true
  | _ => false

/-- An event is an asking of the availability poll (R45). -/
def Event.isAvail : Event → Bool
  | .avail _ => true
  | _ => false

/-- An event is a sleep of the availability poll (R48). -/
def Event.isSleep : Event → Bool
  | .sleep _ => true
  | _ => false

/-- An event is a block read (R44). -/
def Event.isRx : Event → Bool
  | .rx _ _ _ => true
  | _ => false

/-- An event is a block write (R43). -/
def Event.isTx : Event → Bool
  | .tx _ => true
  | _ => false

/-- The bytes an event reads from the channel (R44). -/
def Event.rxBytes : Event → List Byte
  | .rx _ _ bs => bs
  | _ => []

/-- The bytes an event delivers to the tap (R142). -/
def Event.tapBytes : Event → List Byte
  | .tap _ _ bs => bs
  | _ => []

/-- The state with the tap's registration removed and its deliveries struck from the history (R144). -/
def State.withoutTap (s : State) : State :=
  { s with tapFn := .empty, tapCtx := ⟨0⟩, tapValid := false, events := s.events.filter fun e => !e.isTap }

end Sys2Proof.Machine
end

