-- ==== Sys2Proof/Certificates/Slice0/Obligations.lean ====
section
/-! DEFINITION. The statements for the provers. Each docstring names the rules of spec/ it formalises. The functions of
`Sys2Proof.Spec` write the loops of the spec's pseudocode out by index, independently of the model's own operations.
`inputs`, `env` and `free` are the model's own fields (logs 3, 4, 5): an equation between whole states names them so that
nothing is left unsaid, and no rule of spec/ is cited for them. -/

namespace Sys2Proof.Spec

open Sys2Proof.Machine

/-- `p = LEN − 2 − n` (R64). -/
def payloadCount (d : Desc) : Nat :=
  d.len.toNat - 2 - (if d.addr = 255 then 0 else 1) - (if d.pcnt = 255 then 0 else 1)

/-- The sum `s` of R90's pseudocode, loop by loop. -/
def checksumSum (d : Desc) : Nat :=
  d.id.toNat + d.len.toNat + d.instr.toNat
    + (if d.addr = 255 then 0 else d.addr.toNat) + (if d.pcnt = 255 then 0 else d.pcnt.toNat)
    + (if d.idn = 0 then ((List.range (payloadCount d)).map fun i => (readBuf d.data i).toNat).sum
      else ((List.range d.idn.toNat).map fun g => (readBuf d.idlist g).toNat
        + ((List.range d.pcnt.toNat).map fun j => (readBuf d.data (g * d.pcnt.toNat + j)).toNat).sum).sum)

/-- `(~s)[7:0] = 255 − (s mod 256)` (R90). -/
def checksumByte (d : Desc) : Byte := BitVec.ofNat 8 (255 - checksumSum d % 256)

/-- The bytes `ENCODE` returns, by R93's pseudocode. -/
def encodeBytes (d : Desc) : List Byte :=
  [0xFF, 0xFF, d.id, d.len, d.instr]
    ++ (if d.addr = 255 then [] else [d.addr]) ++ (if d.pcnt = 255 then [] else [d.pcnt])
    ++ (if d.idn = 0 then (List.range (payloadCount d)).map fun i => readBuf d.data i
      else (List.range d.idn.toNat).flatMap fun g =>
        readBuf d.idlist g :: (List.range d.pcnt.toNat).map fun j => readBuf d.data (g * d.pcnt.toNat + j))
    ++ [checksumByte d]

/-- `WF(desc)` as R71 writes it. -/
def wellFormedRequest (d : Desc) : Prop :=
  let n := (if d.addr = 255 then 0 else 1) + (if d.pcnt = 255 then 0 else 1)
  d.id.toNat ≤ 254 ∧ 2 + n ≤ d.len.toNat ∧ d.len.toNat ≤ 255 ∧
    (d.idn.toNat = 0 ∨
      (1 ≤ d.idn.toNat ∧ d.id.toNat = 254 ∧ d.pcnt ≠ 255 ∧
        d.len.toNat - 2 - n = d.idn.toNat * (d.pcnt.toNat + 1) ∧
        d.idn.toNat ≤ 251 ∧ d.idn.toNat * d.pcnt.toNat ≤ 253))

/-- The environment's `k`-th coming move, counted from 0; past the end of the script, a silent and sound one (log 4).
-/
def move (s : State) (k : Nat) : EnvMove := s.env.getD k {}

/-- What stands in `ch.rx` once the moves 0 to `k` have brought their bytes and nothing has been read (R31; log 4). -/
def queueAt (s : State) (k : Nat) : List Byte :=
  s.ch.rx ++ (List.range (k + 1)).flatMap fun i => (move s i).arrive

/-- What the poll's `j`-th asking answers, counted from 0 (R45, R121): it uses the move `2 * j`, and the sleep after it
the next one. -/
def answerAt (s : State) (j : Nat) : Nat := (move s (2 * j)).avail.getD (queueAt s (2 * j)).length

/-- What a `ChRead(n)` that uses the `k`-th move returns when `queue` stands in `ch.rx` before it (R44, R175): the front
of the queue with the bytes that arrive while it waits, at most `n`, and fewer where the move ends the wait early. -/
def bytesRead (s : State) (k n : Nat) (queue : List Byte) : List Byte :=
  (queue ++ (move s k).arrive).take (min n ((move s k).readLimit.getD n))

/-- What that read leaves in `ch.rx`. -/
def bytesLeft (s : State) (k n : Nat) (queue : List Byte) : List Byte :=
  (queue ++ (move s k).arrive).drop (bytesRead s k n queue).length

/-- The events that deliver `bs` to the tap after a read (R142): one when a subscriber is registered and there is a
byte, else none. -/
def tapped (s : State) (bs : List Byte) : List Event :=
  if s.tapValid ∧ bs ≠ [] then [.tap s.tapFn s.tapCtx bs] else []

/-- The descriptor after step 0 of DECODE on the header `h` (R96). -/
def captured (d : Desc) (h : Vector Byte 5) : Desc :=
  { d with id := h[2], len := h[3], instr := h[4], addr := 255, pcnt := 255, idn := 0 }

/-- Checks (a), (b), (c) pass (R97, R98, R99). -/
def headerGood (h : Vector Byte 5) (expId : Byte) (expCnt : Nat) : Prop :=
  h[0] = 0xFF ∧ h[1] = 0xFF ∧ h[2] = expId ∧ (h[3].toNat : Int) - 2 = (expCnt : Int)

/-- How many moves DECODE's payload read uses: it is left out when no parameter is expected (R100). -/
def payloadMoves (s : State) : Nat := if s.expCnt = 0 then 0 else 1

/-- The bytes DECODE's payload read returns (R100). -/
def payload (s : State) : List Byte := if s.expCnt = 0 then [] else bytesRead s 0 s.expCnt s.ch.rx

/-- `ch.rx` after the payload read. -/
def afterPayload (s : State) : List Byte := if s.expCnt = 0 then s.ch.rx else bytesLeft s 0 s.expCnt s.ch.rx

/-- The events of the payload read (R44, R142). -/
def payloadEvents (s : State) : List Event :=
  if s.expCnt = 0 then [] else .rx s.expCnt (payload s).length (payload s) :: tapped s (payload s)

/-- What DECODE's checksum read returns: one byte, or none (R101). -/
def checksumRead (s : State) : List Byte := bytesRead s (payloadMoves s) 1 (afterPayload s)

/-- The bytes of the header read after a poll that ended at the `j`-th asking (R122). -/
def headerRead (s : State) (j : Nat) : List Byte := bytesRead s (2 * j + 1) 5 (queueAt s (2 * j))

/-- The state after that read, before anything is made of its bytes: the latches of R119, one sleep between each two of
the `j + 1` askings (R121), the bytes taken from `ch.rx` and shown to the tap (R122, R142). -/
def afterHeaderRead (s : State) (n j : Nat) : State :=
  { s with
    phase := .receiving, expId := s.desc.id, expCnt := n, pollcnt := j
    ch := { s.ch with rx := bytesLeft s (2 * j + 1) 5 (queueAt s (2 * j)) }
    env := s.env.drop (2 * j + 2)
    events := s.events ++ ((List.range j).flatMap fun i => [Event.avail (answerAt s i), .sleep 100])
      ++ [.avail (answerAt s j), .rx 5 (headerRead s j).length (headerRead s j)] ++ tapped s (headerRead s j) }

/-- The checksum of a response with the header `h` and the parameters `bs` (R90 with no optional field, R102). -/
def responseChecksum (h : Vector Byte 5) (bs : List Byte) : Byte :=
  complementByte (h[2].toNat + h[3].toNat + h[4].toNat + byteSum bs)

/-- The state R103's table gives for a header in `HDR`, row by row: a header that fails check (a), (b) or (c); a short
payload; a missing checksum; a checksum that differs or agrees (R95 to R103). -/
def decoded (s : State) : State :=
  if s.hdr[0] = 0xFF ∧ s.hdr[1] = 0xFF ∧ s.hdr[2] = s.expId ∧ (s.hdr[3].toNat : Int) - 2 = (s.expCnt : Int) then
    if (payload s).length < s.expCnt then { s with
      desc := { captured s.desc s.hdr with data := overwrite s.desc.data (payload s), status := Flag.comTimeout }
      ch := { s.ch with rx := afterPayload s }
      env := s.env.drop 1
      events := s.events ++ payloadEvents s }
    else { s with
      desc := match checksumRead s with
        | [] => { captured s.desc s.hdr with data := overwrite s.desc.data (payload s), status := Flag.comTimeout }
        | c :: _ => { captured s.desc s.hdr with
            data := overwrite s.desc.data (payload s), cksum := c
            status := if c = responseChecksum s.hdr (payload s) then Flag.ok else Flag.checksumError }
      ch := { s.ch with rx := bytesLeft s (payloadMoves s) 1 (afterPayload s) }
      env := s.env.drop (payloadMoves s + 1)
      events := s.events ++ payloadEvents s
        ++ .rx 1 (checksumRead s).length (checksumRead s) :: tapped s (checksumRead s) }
  else { s with desc := { captured s.desc s.hdr with status := Flag.comError } }

/-- A state made of an outcome, with the given change where it is a next state. -/
def mapNext (f : State → State) : Host.Outcome State Fault Refusal → Host.Outcome State Fault Refusal
  | .next t => .next (f t)
  | .fault e => .fault e
  | .refused r => .refused r

/-- In an event sequence every read that returned a byte is followed at once by its delivery to `(fn, ctx)`, and there
is no other delivery (R51 item 5, R142). -/
def tapsFollowReads (fn : TapFn) (ctx : TapCtx) : List Event → Prop
  | [] => True
  | .rx _ _ [] :: rest => tapsFollowReads fn ctx rest
  | .rx _ _ (b :: bs) :: .tap fn' ctx' bs' :: rest =>
      fn' = fn ∧ ctx' = ctx ∧ bs' = b :: bs ∧ tapsFollowReads fn ctx rest
  | .rx _ _ (_ :: _) :: _ => False
  | .tap _ _ _ :: _ => False
  | _ :: rest => tapsFollowReads fn ctx rest

/-- The events of a `RECEIVE` (R51): askings, sleeps, reads, deliveries. -/
def isReceiveEvent (e : Event) : Bool := e.isAvail || e.isSleep || e.isRx || e.isTap

end Sys2Proof.Spec

open Sys2Proof Sys2Proof.Machine

/-! ## Encoding -/

/-- Every well-formed instruction, with every operand at every value its encoding admits, is read back from its bytes,
whatever follows them (R60 to R66, R69, R70; logs 1 and 2 for the bytes the spec does not give). -/
def Obligations.DecodeReadsBackEveryEncodedInstruction : Prop :=
  ∀ (i : Instr) (rest : List Byte), i.wellFormed = true → decode (encode i ++ rest) = .ok (i, rest)

/-- The sixteen command codes of R69's table, as words of the opcode table, with operand bytes of zero (log 1). -/
def Obligations.CommandCodesOfTheTableDecode : Prop :=
  [0x0, 0x1, 0x2, 0x3, 0x4, 0x5, 0x6, 0x7, 0x8, 0x9, 0xA, 0xB, 0xC, 0xD, 0xE, 0xF].map (decodeTableWord 8) =
    [Instr.reserved0, .beginTxn, .send, .receive 0, .endTxn, .transact 0, .setTap .empty ⟨0⟩, .checksum, .encode,
      .decode #v[0, 0, 0, 0, 0] 0 0, .reservedA, .reservedB, .reservedC, .reservedD, .reservedE, .reservedF].map some

/-- A step runs the instruction its input's bytes decode to, on the state with the input taken; a refused command
leaves its record alone and the machine goes on (R111, U9; log 13). -/
def Obligations.StepRunsTheDecodedInstruction : Prop :=
  ∀ (s : State) (bytes rest : List Byte) (inputs : List Input) (i : Instr),
    s.hung = none → s.inputs = .instr bytes :: inputs → decode bytes = .ok (i, rest) →
    step s = match exec i { s with inputs := inputs } with
      | .next t => .next t
      | .fault f => .fault f
      | .refused r => .next { s with inputs := inputs, refusals := s.refusals ++ [r] }

/-- A word of the opcode table placed as the next input is what the next step runs (log 3). -/
def Obligations.PlacedTableWordIsRunNext : Prop :=
  ∀ (s : State) (nbits w : Nat) (i : Instr), decodeTableWord nbits w = some i →
    step (s.withFetchWord nbits w) = match exec i { s with hung := none } with
      | .next t => .next t
      | .fault f => .fault f
      | .refused r => .next { s with hung := none, refusals := s.refusals ++ [r] }

/-! ## Inputs that are not commands; reset -/

/-- The machine waits when the host has issued nothing (R7, log 3), and an engine stuck in a command never moves again
(R126, R208; log 11). -/
def Obligations.WaitingAndStuckStepsChangeNothing : Prop :=
  ∀ s : State, (s.hung ≠ none ∨ s.inputs = []) → step s = .next s

/-- A host write to a buffer writes that element and no other register; an element that does not exist faults
(R10, R16, R17, R54; log 20). -/
def Obligations.HostBufferWriteChangesOneElement : Prop :=
  ∀ (s : State) (inputs : List Input) (i : Nat) (v : Byte), s.hung = none →
    (s.inputs = .write (.data i) v :: inputs →
      (i < 253 → ∃ data, step s = .next { s with inputs := inputs, desc := { s.desc with data := data } } ∧
        readBuf data i = v ∧ ∀ j, j ≠ i → readBuf data j = readBuf s.desc.data j) ∧
      (253 ≤ i → step s = .fault .noSuchElement)) ∧
    (s.inputs = .write (.idlist i) v :: inputs →
      (i < 251 → ∃ ids, step s = .next { s with inputs := inputs, desc := { s.desc with idlist := ids } } ∧
        readBuf ids i = v ∧ ∀ j, j ≠ i → readBuf ids j = readBuf s.desc.idlist j) ∧
      (251 ≤ i → step s = .fault .noSuchElement))

/-- A host write to a one-byte register of the descriptor changes that register alone (R10, R54). That it is accepted
in every phase is read from R33 and U19 by inference (DEDUCED, log 20). That `STATUS` keeps all eight bits of the value,
where R20's table and D2 say that bits 5 to 7 read as 0, is the model's choice (DESIGN CHOICE, log 26). -/
def Obligations.HostRegisterWriteChangesOneRegister : Prop :=
  ∀ (s : State) (inputs : List Input) (v : Byte), s.hung = none →
    (s.inputs = .write .id v :: inputs → step s = .next { s with inputs := inputs, desc := { s.desc with id := v } }) ∧
    (s.inputs = .write .len v :: inputs →
      step s = .next { s with inputs := inputs, desc := { s.desc with len := v } }) ∧
    (s.inputs = .write .instr v :: inputs →
      step s = .next { s with inputs := inputs, desc := { s.desc with instr := v } }) ∧
    (s.inputs = .write .addr v :: inputs →
      step s = .next { s with inputs := inputs, desc := { s.desc with addr := v } }) ∧
    (s.inputs = .write .pcnt v :: inputs →
      step s = .next { s with inputs := inputs, desc := { s.desc with pcnt := v } }) ∧
    (s.inputs = .write .idn v :: inputs →
      step s = .next { s with inputs := inputs, desc := { s.desc with idn := v } }) ∧
    (s.inputs = .write .cksum v :: inputs →
      step s = .next { s with inputs := inputs, desc := { s.desc with cksum := v } }) ∧
    (s.inputs = .write .status v :: inputs →
      step s = .next { s with inputs := inputs, desc := { s.desc with status := v } })

/-- The platform sets `BUS_EN` and nothing else changes (R25, R178). Another user of the channel sets `ch.cfg` and
nothing else changes while `PHASE = IDLE`, when the configuration is that party's (R33, R210); that it acts between
commands, and is refused by name while the engine owns the channel, is the model's choice (log 25). -/
def Obligations.PlatformAndOtherUserChangeOneThing : Prop :=
  ∀ (s : State) (inputs : List Input), s.hung = none →
    (∀ b, s.inputs = .busEnable b :: inputs → step s = .next { s with inputs := inputs, busEn := b }) ∧
    (∀ c, s.inputs = .otherConfigure c :: inputs →
      (s.phase = .idle → step s = .next { s with inputs := inputs, ch := { s.ch with cfg := c } }) ∧
      (s.phase ≠ .idle → step s = .refused .channelOwnedByEngine))

/-- The reset values the spec gives, and the one event of reset (R32, R190). The values of the registers R32 leaves
unspecified are the model's (log 6) and are not stated. -/
def Obligations.ResetStateHasTheSpecifiedValues : Prop :=
  State.reset.phase = .idle ∧ State.reset.savedValid = false ∧ State.reset.tapValid = false ∧
    State.reset.pollcnt = 0 ∧ State.reset.dir = !State.reset.params.dirTxLevel ∧
    State.reset.events = [.dir (!State.reset.params.dirTxLevel)]

/-- The reset event while `PHASE = IDLE`: the five values and the one event of R190, the channel untouched. Inside a
transaction it is not offered (U16). The model's choices (log 12): that there it is refused by name, and that the bus
enable, the parameters, the last result, the refusals and the model's own fields are kept. -/
def Obligations.ResetInputDoesWhatTheRuleSays : Prop :=
  ∀ (s : State) (inputs : List Input), s.hung = none → s.inputs = .reset :: inputs →
    (s.phase = .idle → ∃ t, step s = .next t ∧
      t.phase = .idle ∧ t.savedValid = false ∧ t.tapValid = false ∧ t.pollcnt = 0 ∧
      t.dir = (!s.params.dirTxLevel) ∧ t.events = s.events ++ [.dir (!s.params.dirTxLevel)] ∧
      t.ch = s.ch ∧ t.params = s.params ∧ t.busEn = s.busEn ∧ t.inputs = inputs ∧ t.env = s.env ∧
      t.refusals = s.refusals ∧ t.result = s.result ∧ t.hung = none) ∧
    (s.phase ≠ .idle → step s = .refused .resetInTransaction)

/-! ## The codec -/

/-- R71's predicate decides which descriptors are well-formed requests; ENCODE, SEND and TRANSACT refuse the others,
each in a phase that accepts it. -/
def Obligations.RequestIsWellFormedExactlyByTheRule : Prop :=
  (∀ d : Desc, d.wf = true ↔ Spec.wellFormedRequest d) ∧
  ∀ (s : State) (n : Nat), s.hung = none → ¬ Spec.wellFormedRequest s.desc →
    exec .encode s = .refused .notWellFormed ∧ (s.phase = .reserved → exec .send s = .refused .notWellFormed) ∧
    (s.phase = .idle → exec (.transact n) s = .refused .notWellFormed)

/-- CHECKSUM returns the byte of R90's loops and changes nothing else; the same formula holds of a descriptor DECODE has
filled, for `LEN ≥ 2` (R90, R91). It refuses an ill-formed request (U2); that the host's CHECKSUM does so also on a
descriptor DECODE has filled with the id 255 is the model's choice (DEDUCED, log 21). -/
def Obligations.ChecksumReturnsTheByteOfTheRule : Prop :=
  (∀ s : State, s.hung = none →
    (s.desc.wf = true → exec .checksum s = .next { s with result := .byte (Spec.checksumByte s.desc) }) ∧
    (s.desc.wf = false → exec .checksum s = .refused .notWellFormed)) ∧
  ∀ d : Desc, d.addr = 255 → d.pcnt = 255 → d.idn = 0 → 2 ≤ d.len.toNat → d.checksum = Spec.checksumByte d

/-- ENCODE returns the bytes of R93's pseudocode, writes `CKSUM` and nothing else, and causes no event; it refuses an
ill-formed request with the state unchanged (R93, R94). -/
def Obligations.EncodeReturnsThePacketAndWritesCksum : Prop :=
  ∀ s : State, s.hung = none →
    (s.desc.wf = true → exec .encode s = .next { s with
        desc := { s.desc with cksum := Spec.checksumByte s.desc }
        result := .bytes (Spec.encodeBytes s.desc) }) ∧
    (s.desc.wf = false → exec .encode s = .refused .notWellFormed)

/-- The packet of a well-formed request is the wire form that R62's table selects for its descriptor, and that form is
a well-formed packet (R62, R64, R66, R71). -/
def Obligations.PacketIsTheFormTheDescriptorSelects : Prop :=
  ∀ d : Desc, d.wf = true →
    d.packet = wireBytes d.form ∧ d.form.wellFormed = true ∧
    (d.idn = 0 → d.addr = 255 → d.pcnt = 255 →
      d.form = .reqPlain d.id d.len d.instr (d.data.toList.take (d.len.toNat - 2)) d.checksum) ∧
    (d.idn = 0 → d.addr ≠ 255 → d.pcnt = 255 →
      d.form = .reqAddr d.id d.len d.instr d.addr (d.data.toList.take (d.len.toNat - 3)) d.checksum) ∧
    (d.idn = 0 → d.addr = 255 → d.pcnt ≠ 255 →
      d.form = .reqPcnt d.id d.len d.instr d.pcnt (d.data.toList.take (d.len.toNat - 3)) d.checksum) ∧
    (d.idn = 0 → d.addr ≠ 255 → d.pcnt ≠ 255 →
      d.form = .reqAddrPcnt d.id d.len d.instr d.addr d.pcnt (d.data.toList.take (d.len.toNat - 4)) d.checksum) ∧
    (d.idn ≠ 0 → ∃ addr groups, d.form = .reqSync d.id d.len d.instr addr d.pcnt groups d.checksum ∧
      addr = (if d.addr = 255 then none else some d.addr) ∧ groups.length = d.idn.toNat)

/-- A packet is `LEN + 4` bytes long, from 6 to 259, with the fields of R61 at their offsets (R61, R68). -/
def Obligations.PacketHasLengthLenPlusFour : Prop :=
  ∀ d : Desc, d.wf = true →
    d.packet.length = d.len.toNat + 4 ∧ 6 ≤ d.packet.length ∧ d.packet.length ≤ 259 ∧
    d.packet.take 5 = [0xFF, 0xFF, d.id, d.len, d.instr] ∧ d.packet[d.len.toNat + 3]? = some d.checksum

/-- R92, which the spec derives from R90: the bytes of a packet from offset 2 on sum to 255 modulo 256; one changed
byte breaks that; changes that cancel and reorderings of the covered bytes do not. -/
def Obligations.ChecksumDetectsOneChangedByteOnly : Prop :=
  ∀ d : Desc, d.wf = true →
    byteSum (d.packet.drop 2) % 256 = 255 ∧
    (∀ (o : Nat) (b : Byte), 2 ≤ o → o < d.packet.length → d.packet[o]? ≠ some b →
      byteSum ((d.packet.set o b).drop 2) % 256 ≠ 255) ∧
    (∀ bs : List Byte, byteSum bs % 256 = byteSum d.covered % 256 → complementByte (byteSum bs) = d.checksum) ∧
    (∀ bs : List Byte, bs.Perm d.covered → complementByte (byteSum bs) = d.checksum)

/-- R94: the map from well-formed descriptors to packets is not injective; a first data byte other than 255 can stand
in the parameter-count field. -/
def Obligations.PacketDoesNotTellWhichFormBuiltIt : Prop :=
  ∀ d : Desc, d.wf = true → d.idn = 0 → d.addr ≠ 255 → d.pcnt = 255 → 4 ≤ d.len.toNat → readBuf d.data 0 ≠ 255 →
    ∃ d' : Desc, d'.wf = true ∧ d'.pcnt = readBuf d.data 0 ∧ d' ≠ d ∧ d'.packet = d.packet

/-- R103's table, which the spec derives from R95 to R102, for every channel environment that is not in
`RAW_UNBOUNDED` mode: the whole state DECODE leaves, with the bytes its reads return from the channel, their deliveries
to the tap, and what stays in `ch.rx`, at each outcome in the order of the checks (R95 to R103, R142). The two bounds
say that the outcomes are all there are. -/
def Obligations.DecodeEndsInOneOfTheOutcomesOfTheTable : Prop :=
  ∀ s : State, s.hung = none → s.params.rxByteMode ≠ .rawUnbounded →
    (¬ Spec.headerGood s.hdr s.expId s.expCnt → decodeResponse s = { s with
      desc := { Spec.captured s.desc s.hdr with status := Flag.comError } }) ∧
    (Spec.payload s).length ≤ s.expCnt ∧ (Spec.checksumRead s).length ≤ 1 ∧
    (Spec.headerGood s.hdr s.expId s.expCnt → (Spec.payload s).length < s.expCnt → decodeResponse s = { s with
      desc := { Spec.captured s.desc s.hdr with
        data := overwrite s.desc.data (Spec.payload s), status := Flag.comTimeout }
      ch := { s.ch with rx := Spec.afterPayload s }
      env := s.env.drop 1
      events := s.events ++ Spec.payloadEvents s }) ∧
    (Spec.headerGood s.hdr s.expId s.expCnt → (Spec.payload s).length = s.expCnt → Spec.checksumRead s = [] →
      decodeResponse s = { s with
        desc := { Spec.captured s.desc s.hdr with
          data := overwrite s.desc.data (Spec.payload s), status := Flag.comTimeout }
        ch := { s.ch with rx := Spec.bytesLeft s (Spec.payloadMoves s) 1 (Spec.afterPayload s) }
        env := s.env.drop (Spec.payloadMoves s + 1)
        events := s.events ++ Spec.payloadEvents s ++ [.rx 1 0 []] }) ∧
    (∀ c, Spec.headerGood s.hdr s.expId s.expCnt → (Spec.payload s).length = s.expCnt → Spec.checksumRead s = [c] →
      decodeResponse s = { s with
        desc := { Spec.captured s.desc s.hdr with
          data := overwrite s.desc.data (Spec.payload s), cksum := c
          status := if c = Spec.responseChecksum s.hdr (Spec.payload s) then Flag.ok else Flag.checksumError }
        ch := { s.ch with rx := Spec.bytesLeft s (Spec.payloadMoves s) 1 (Spec.afterPayload s) }
        env := s.env.drop (Spec.payloadMoves s + 1)
        events := s.events ++ Spec.payloadEvents s ++ .rx 1 1 [c] :: Spec.tapped s [c] })

/-- R104, which the spec derives from R93 and R95: decoding the encoding of a well-formed request with its own id and
count, read without a short read, gives `OK` and the same `ID`, `LEN`, `INSTR`, `CKSUM`; `DATA` holds the wire
parameter bytes, which are the request's own `DATA` in the plain form. -/
def Obligations.DecodeOfEncodeReproducesTheRequest : Prop :=
  ∀ (s : State) (d : Desc) (rest : List Byte), d.wf = true → s.hung = none → s.quietChannel = true →
    s.hdr.toList = d.packet.take 5 → s.expId = d.id → s.expCnt = d.len.toNat - 2 →
    s.ch.rx = d.packet.drop 5 ++ rest →
    ∃ t, t = decodeResponse s ∧ t.desc.status = Flag.ok ∧ t.desc.id = d.id ∧ t.desc.len = d.len ∧
      t.desc.instr = d.instr ∧ t.desc.cksum = d.checksum ∧ d.packet.getLast? = some d.checksum ∧
      t.desc.data.toList.take (d.len.toNat - 2) = (d.packet.drop 5).take (d.len.toNat - 2) ∧
      t.desc.addr = 255 ∧ t.desc.pcnt = 255 ∧ t.desc.idn = 0 ∧ t.ch.rx = rest ∧ t.hung = none ∧
      (d.addr = 255 → d.pcnt = 255 → d.idn = 0 →
        t.desc.data.toList.take (d.len.toNat - 2) = d.data.toList.take (d.len.toNat - 2))

/-- R105, which the spec derives from R92 and R97 to R102: a packet with one byte changed to a different value never
decodes to `OK`: `COM_ERROR` for a changed header byte, id or length, `CHECKSUM_ERROR` for any byte from the status
byte on. -/
def Obligations.OneCorruptedByteIsAlwaysDetected : Prop :=
  ∀ (s : State) (d : Desc) (rest : List Byte) (o : Nat) (b : Byte), d.wf = true → s.hung = none →
    s.quietChannel = true → o < d.packet.length → d.packet[o]? ≠ some b →
    s.hdr.toList = (d.packet.set o b).take 5 → s.expId = d.id → s.expCnt = d.len.toNat - 2 →
    s.ch.rx = (d.packet.set o b).drop 5 ++ rest →
    (decodeResponse s).desc.status = if o ≤ 3 then Flag.comError else Flag.checksumError

/-! ## BEGIN, SEND, END -/

/-- BEGIN on an enabled bus whose channel takes `PROTO_CFG` (R112, and R115, which the spec derives from it): exactly
these registers, this channel state and these events; every byte that was in `ch.rx` before the drain is gone. -/
def Obligations.BeginReservesTheChannel : Prop :=
  ∀ s : State, s.ready [.idle] → s.busEn = true → (Spec.move s 2).configureOk = true →
    exec .beginTxn s = .next { s with
      phase := .reserved, savedCfg := s.ch.cfg, savedValid := true
      ch := { cfg := Config.protoCfg s.params, rx := (Spec.move s 1).arrive ++ (Spec.move s 2).arrive, tx := s.ch.tx }
      env := s.env.drop 3
      events := s.events ++ [.drain, .cfgGet s.ch.cfg, .cfgSet (Config.protoCfg s.params) true]
      result := .status Flag.ok }

/-- BEGIN with the bus disabled (R113): `FAIL` is returned and nothing else happens. -/
def Obligations.BeginFailsFastOnADisabledBus : Prop :=
  ∀ s : State, s.ready [.idle] → s.busEn = false →
    exec .beginTxn s = .next { s with result := .status Flag.fail }

/-- BEGIN when `PROTO_CFG` cannot be applied (R114): the saved configuration is restored at once, `SAVED_VALID` is
cleared, `PHASE` stays `IDLE`, and `COM_ERROR | INTERNAL` is returned. When the restoring call fails too, the
channel's configuration is the free value (U4; log 5) and nothing else differs (R160). -/
def Obligations.BeginRestoresWhenTheConfigurationFails : Prop :=
  ∀ s : State, s.ready [.idle] → s.busEn = true → (Spec.move s 2).configureOk = false →
    exec .beginTxn s = .next { s with
      savedCfg := s.ch.cfg, savedValid := false
      ch := { cfg := if (Spec.move s 3).configureOk then s.ch.cfg else Config.cfgAfterFailedConfigure (s.free + 1)
              rx := (Spec.move s 1).arrive ++ (Spec.move s 2).arrive ++ (Spec.move s 3).arrive, tx := s.ch.tx }
      env := s.env.drop 4
      free := if (Spec.move s 3).configureOk then s.free + 1 else s.free + 2
      events := s.events ++ [.drain, .cfgGet s.ch.cfg, .cfgSet (Config.protoCfg s.params) false,
        .cfgSet s.ch.cfg (Spec.move s 3).configureOk]
      result := .status (Flag.comError ||| Flag.internal) }

/-- SEND of a well-formed request (R116; R118 and R51 item 3, which the spec derives from it): transmit direction, one
write of the packet, one flush, receive direction; `PHASE`, `DIR`, `CKSUM` are the only registers written. -/
def Obligations.SendTransmitsThePacketOnce : Prop :=
  ∀ s : State, s.ready [.reserved] → s.desc.wf = true → (Spec.move s 1).flushReturns = true →
    exec .send s = .next { s with
      phase := .sending, dir := !s.params.dirTxLevel
      desc := { s.desc with cksum := Spec.checksumByte s.desc }
      ch := { cfg := s.ch.cfg, rx := s.ch.rx ++ (Spec.move s 0).arrive ++ (Spec.move s 1).arrive, tx := [] }
      env := s.env.drop 2
      events := s.events ++ [.dir s.params.dirTxLevel, .tx (Spec.encodeBytes s.desc), .flush,
        .dir (!s.params.dirTxLevel)] }

/-- SEND on a channel that never drains (R47, R208; U8): the command never returns, the line stays in transmit
direction, and no later step changes anything. -/
def Obligations.SendOnAChannelThatNeverDrainsIsStuck : Prop :=
  ∀ s : State, s.ready [.reserved] → s.desc.wf = true → (Spec.move s 1).flushReturns = false →
    ∃ t, exec .send s = .next t ∧ t.hung = some .flush ∧ t.phase = .sending ∧ t.dir = s.params.dirTxLevel ∧
      t.events = s.events ++ [.dir s.params.dirTxLevel, .tx (Spec.encodeBytes s.desc)] ∧
      t.desc.status = s.desc.status ∧ step t = .next t

/-- END (R127): it restores a saved configuration and clears `SAVED_VALID`; with nothing saved it causes no event; in
every phase it ends in `IDLE`. The result of the restoring call is ignored (R160; U4; log 5). -/
def Obligations.EndRestoresWhatBeginSaved : Prop :=
  ∀ s : State, s.hung = none →
    (s.savedValid = true → (Spec.move s 0).configureOk = true → exec .endTxn s = .next { s with
      savedValid := false, phase := .idle
      ch := { cfg := s.savedCfg, rx := s.ch.rx ++ (Spec.move s 0).arrive, tx := s.ch.tx }
      env := s.env.drop 1, events := s.events ++ [.cfgSet s.savedCfg true] }) ∧
    (s.savedValid = true → (Spec.move s 0).configureOk = false → exec .endTxn s = .next { s with
      savedValid := false, phase := .idle
      ch := { cfg := Config.cfgAfterFailedConfigure s.free, rx := s.ch.rx ++ (Spec.move s 0).arrive, tx := s.ch.tx }
      free := s.free + 1
      env := s.env.drop 1, events := s.events ++ [.cfgSet s.savedCfg false] }) ∧
    (s.savedValid = false → exec .endTxn s = .next { s with phase := .idle })

/-! ## RECEIVE -/

/-- RECEIVE on the broadcast id (R120): the step is skipped, `STATUS <- OK`, nothing else. -/
def Obligations.ReceiveSkipsABroadcast : Prop :=
  ∀ (s : State) (n : Nat), s.ready [.sending] → n ≤ 253 → s.desc.id = 254 →
    exec (.receive n) s = .next { s with desc := { s.desc with status := Flag.ok } }

/-- RECEIVE of a whole response that stands in `ch.rx` (R119, R122, R123, R124 outcomes 9 and 10, R100 to R102): three
reads (two when `n = 0`), each followed by its delivery to the tap; `OK` exactly when the received checksum byte is
the complement of the byte sum. In every mode of `RX_BYTE_MODE`. -/
def Obligations.ReceiveOfAWholeResponse : Prop :=
  ∀ (s : State) (st ck : Byte) (params rest : List Byte), s.ready [.sending] → s.desc.id ≠ 254 →
    params.length ≤ 253 → s.quietChannel = true →
    s.ch.rx = [0xFF, 0xFF, s.desc.id, BitVec.ofNat 8 (params.length + 2), st] ++ params ++ [ck] ++ rest →
    exec (.receive params.length) s = .next { s with
      phase := .receiving, expId := s.desc.id, expCnt := params.length, pollcnt := 0
      hdr := #v[0xFF, 0xFF, s.desc.id, BitVec.ofNat 8 (params.length + 2), st]
      desc := { s.desc with
        len := BitVec.ofNat 8 (params.length + 2), instr := st, addr := 255, pcnt := 255, idn := 0
        data := overwrite s.desc.data params, cksum := ck
        status := if ck = complementByte (s.desc.id.toNat + (params.length + 2) + st.toNat + byteSum params)
          then Flag.ok else Flag.checksumError }
      ch := { s.ch with rx := rest }
      env := s.env.drop (if params = [] then 3 else 4)
      events := s.events ++ [.avail s.ch.rx.length]
        ++ [.rx 5 5 [0xFF, 0xFF, s.desc.id, BitVec.ofNat 8 (params.length + 2), st]]
        ++ Spec.tapped s [0xFF, 0xFF, s.desc.id, BitVec.ofNat 8 (params.length + 2), st]
        ++ (if params = [] then [] else [.rx params.length params.length params]) ++ Spec.tapped s params
        ++ [.rx 1 1 [ck]] ++ Spec.tapped s [ck] }

/-- RECEIVE of a header that fails check (a), (b) or (c) (R97, R98, R99, R124 outcomes 4 to 6), on a channel where the
header is there at the first asking (R119, R121, R122): `COM_ERROR`, the header captured before the checks (R96, the
spec's own choice D8), five bytes consumed, shown to the tap (R142), and no further byte read. -/
def Obligations.ReceiveOfABadHeader : Prop :=
  ∀ (s : State) (n : Nat) (h : Vector Byte 5) (rest : List Byte), s.ready [.sending] → s.desc.id ≠ 254 → n ≤ 253 →
    s.quietChannel = true → s.ch.rx = h.toList ++ rest → ¬ Spec.headerGood h s.desc.id n →
    exec (.receive n) s = .next { s with
      phase := .receiving, expId := s.desc.id, expCnt := n, pollcnt := 0, hdr := h
      desc := { Spec.captured s.desc h with status := Flag.comError }
      ch := { s.ch with rx := rest }
      env := s.env.drop 2
      events := s.events ++ [.avail s.ch.rx.length, .rx 5 5 h.toList] ++ Spec.tapped s h.toList }

/-- RECEIVE when the poll never sees five bytes (R121, R124 outcome 2; the source's scenario C): 101 askings, 100
sleeps, `COM_ERROR | TIMEOUT`, no byte read, no other descriptor field changed. -/
def Obligations.ReceiveTimesOutWithoutAHeader : Prop :=
  ∀ (s : State) (n : Nat), s.ready [.sending] → s.desc.id ≠ 254 → n ≤ 253 → s.quietChannel = true →
    s.ch.rx.length < 5 →
    exec (.receive n) s = .next { s with
      phase := .receiving, expId := s.desc.id, expCnt := n, pollcnt := 100
      desc := { s.desc with status := Flag.comTimeout }
      env := s.env.drop 201
      events := s.events ++ .avail s.ch.rx.length ::
        (List.replicate 100 [Event.sleep 100, .avail s.ch.rx.length]).flatten }

/-- Timeout monotonicity (R125), for every channel environment, dishonest ones included: if every answer of the poll
is below 5, `STATUS` is `COM_ERROR | TIMEOUT` and nothing is read; if one answer, the 101st included, is at least 5,
the poll ends there with a read (or, in `RAW_UNBOUNDED` mode, inside one). -/
def Obligations.TimeoutExactlyWhenNoAskingSawAHeader : Prop :=
  ∀ (s : State) (n : Nat), s.ready [.sending] → s.desc.id ≠ 254 → n ≤ 253 →
    ∃ (t : State) (new : List Event), exec (.receive n) s = .next t ∧ t.events = s.events ++ new ∧
      ((∀ a, Event.avail a ∈ new → a < 5) →
        t.desc = { s.desc with status := Flag.comTimeout } ∧ t.pollcnt = 100 ∧ t.hdr = s.hdr ∧ t.hung = none ∧
        new.countP Event.isAvail = 101 ∧ new.countP Event.isSleep = 100 ∧ new.countP Event.isRx = 0) ∧
      ((∃ a, Event.avail a ∈ new ∧ 5 ≤ a) → 1 ≤ new.countP Event.isRx ∨ t.hung = some .rawRead)

/-- RECEIVE of a header that is found at any asking, for every channel environment, bytes that arrive between askings
and while a read waits included (R121, R122, R123, the second half of R125; vectors V-R4, V-R5, V-R7, V-R14, program
P7). The poll's `j`-th asking is the first to answer five or more.
When the header read returns fewer than five bytes, outside `RAW_UNBOUNDED` mode (decision D35; R124 outcome 3):
`COM_ERROR | TIMEOUT`; those bytes are consumed and shown to the tap; `HDR` and the rest of the descriptor unchanged.
When it returns five, RECEIVE ends as DECODE does on that header, and, outside `RAW_UNBOUNDED` mode, in the outcome
that R103's table gives (R124 outcomes 4 to 10). -/
def Obligations.ReceiveOfAHeaderFoundAtAnyAsking : Prop :=
  ∀ (s : State) (n j : Nat), s.ready [.sending] → s.desc.id ≠ 254 → n ≤ 253 →
    j ≤ 100 → (∀ i, i < j → Spec.answerAt s i < 5) → 5 ≤ Spec.answerAt s j →
    (s.params.rxByteMode ≠ .rawUnbounded → (Spec.headerRead s j).length < 5 →
      exec (.receive n) s = .next { Spec.afterHeaderRead s n j with
        desc := { s.desc with status := Flag.comTimeout } }) ∧
    (∀ h : Vector Byte 5, Spec.headerRead s j = h.toList →
      exec (.receive n) s = .next (decodeResponse { Spec.afterHeaderRead s n j with hdr := h }) ∧
      (s.params.rxByteMode ≠ .rawUnbounded →
        exec (.receive n) s = .next (Spec.decoded { Spec.afterHeaderRead s n j with hdr := h })))

/-- A response that stops early, in `GENERIC` or `RAW_BOUNDED` mode (R100, R101, R124 outcomes 7 and 8): `COM_ERROR |
TIMEOUT`, the bytes received kept in `DATA`, `CKSUM` unchanged, everything there consumed. -/
def Obligations.ReceiveOfAShortResponse : Prop :=
  ∀ (s : State) (n : Nat) (st : Byte) (part : List Byte), s.ready [.sending] → s.desc.id ≠ 254 → n ≤ 253 →
    part.length ≤ n → s.quietChannel = true → s.params.rxByteMode ≠ .rawUnbounded →
    s.ch.rx = [0xFF, 0xFF, s.desc.id, BitVec.ofNat 8 (n + 2), st] ++ part →
    ∃ t, exec (.receive n) s = .next t ∧ t.hung = none ∧ t.phase = .receiving ∧ t.ch.rx = [] ∧
      t.desc = { s.desc with len := BitVec.ofNat 8 (n + 2), instr := st, addr := 255, pcnt := 255, idn := 0
                             data := overwrite s.desc.data part, status := Flag.comTimeout } ∧
      t.savedCfg = s.savedCfg ∧ t.savedValid = s.savedValid ∧ t.dir = s.dir ∧ t.ch.cfg = s.ch.cfg

/-- The same response in `RAW_UNBOUNDED` mode (R126, R201; U6): RECEIVE never returns, `PHASE = RECEIVING`, no status
is written, the channel keeps its configuration and the framer the saved one, and no later step changes anything. -/
def Obligations.ShortResponseHangsTheUnboundedRead : Prop :=
  ∀ (s : State) (n : Nat) (st : Byte) (part : List Byte), s.ready [.sending] → s.desc.id ≠ 254 → n ≤ 253 →
    part.length ≤ n → s.quietChannel = true → s.params.rxByteMode = .rawUnbounded →
    s.ch.rx = [0xFF, 0xFF, s.desc.id, BitVec.ofNat 8 (n + 2), st] ++ part →
    ∃ t, exec (.receive n) s = .next t ∧ t.hung = some .rawRead ∧ t.phase = .receiving ∧
      t.desc.status = s.desc.status ∧ t.ch.cfg = s.ch.cfg ∧ t.savedCfg = s.savedCfg ∧
      t.savedValid = s.savedValid ∧ step t = .next t

/-- R124, R121, R131 for every channel environment: a RECEIVE that is accepted ends in one of the four values of
`STATUS`, or is stuck in `RAW_UNBOUNDED` mode with `STATUS` unwritten; it makes at most 101 askings, 100 sleeps and 3
reads, and no other channel or line event. -/
def Obligations.ReceiveEndsWithinItsBounds : Prop :=
  ∀ (s : State) (n : Nat), s.ready [.sending] → n ≤ 253 →
    ∃ (t : State) (new : List Event), exec (.receive n) s = .next t ∧ t.events = s.events ++ new ∧
      (t.hung = none → t.desc.status = Flag.ok ∨ t.desc.status = Flag.comError ∨
        t.desc.status = Flag.comTimeout ∨ t.desc.status = Flag.checksumError) ∧
      (t.hung ≠ none → t.hung = some .rawRead ∧ s.params.rxByteMode = .rawUnbounded ∧
        t.desc.status = s.desc.status) ∧
      t.phase = (if s.desc.id = 254 then .sending else .receiving) ∧
      (∀ e ∈ new, Spec.isReceiveEvent e = true) ∧ new.countP Event.isAvail ≤ 101 ∧
      new.countP Event.isSleep ≤ 100 ∧ new.countP Event.isRx ≤ 3

/-- A response that echoes the request (R205): the request's own bytes in `ch.rx`, with `LEN − 2` expected parameters,
are read as a response with a valid checksum. -/
def Obligations.EchoOfTheRequestIsReadAsAResponse : Prop :=
  ∀ (s : State) (rest : List Byte), s.ready [.sending] → s.desc.wf = true → s.desc.id ≠ 254 →
    s.quietChannel = true → s.ch.rx = s.desc.packet ++ rest →
    ∃ t, exec (.receive (s.desc.len.toNat - 2)) s = .next t ∧ t.desc.status = Flag.ok ∧
      t.desc.instr = s.desc.instr ∧ t.desc.cksum = s.desc.checksum ∧ t.ch.rx = rest

/-! ## TRANSACT -/

/-- TRANSACT is BEGIN; SEND; RECEIVE; END (R74, R129): when each of the four, run singly, answers a next state and
BEGIN returns `OK`, TRANSACT answers the last one's, with `STATUS` as its result. -/
def Obligations.TransactIsTheFourCommandsInSequence : Prop :=
  ∀ (s s1 s2 s3 s4 : State) (n : Nat), s.desc.wf = true → n ≤ 253 →
    exec .beginTxn s = .next s1 → s1.result = .status Flag.ok →
    exec .send s1 = .next s2 → exec (.receive n) s2 = .next s3 → exec .endTxn s3 = .next s4 →
    exec (.transact n) s = .next { s4 with result := .status s4.desc.status }

/-- TRANSACT whose BEGIN fails (R129, R130). With the bus disabled: `STATUS <- FAIL` and no event (R113). When
`PROTO_CFG` cannot be applied: `STATUS <- COM_ERROR | INTERNAL`, the four events of program P4, the saved configuration
restored at once, no byte sent and the line untouched (R114); when the restoring call fails too, the channel's
configuration is the free value (U4; log 5) and nothing else differs (R160). -/
def Obligations.TransactReturnsTheFailureOfBegin : Prop :=
  ∀ (s : State) (n : Nat), s.ready [.idle] → s.desc.wf = true → n ≤ 253 →
    (s.busEn = false → exec (.transact n) s = .next { s with
      desc := { s.desc with status := Flag.fail }, result := .status Flag.fail }) ∧
    (s.busEn = true → (Spec.move s 2).configureOk = false → exec (.transact n) s = .next { s with
      savedCfg := s.ch.cfg, savedValid := false
      desc := { s.desc with status := Flag.comError ||| Flag.internal }
      ch := { cfg := if (Spec.move s 3).configureOk then s.ch.cfg else Config.cfgAfterFailedConfigure (s.free + 1)
              rx := (Spec.move s 1).arrive ++ (Spec.move s 2).arrive ++ (Spec.move s 3).arrive, tx := s.ch.tx }
      env := s.env.drop 4
      free := if (Spec.move s 3).configureOk then s.free + 1 else s.free + 2
      events := s.events ++ [.drain, .cfgGet s.ch.cfg, .cfgSet (Config.protoCfg s.params) false,
        .cfgSet s.ch.cfg (Spec.move s 3).configureOk]
      result := .status (Flag.comError ||| Flag.internal) })

/-- TRANSACT of a broadcast on a quiet and sound channel (R120, R129, R51 item 7): the events of program P2, `STATUS =
OK`, the channel's configuration restored, only `CKSUM` and `STATUS` of the descriptor written. -/
def Obligations.TransactOfABroadcastCompletes : Prop :=
  ∀ (s : State) (n : Nat), s.ready [.idle] → s.desc.wf = true → n ≤ 253 → s.busEn = true → s.desc.id = 254 →
    s.quietChannel = true → s.soundChannel = true →
    exec (.transact n) s = .next { s with
      savedCfg := s.ch.cfg, savedValid := false, dir := !s.params.dirTxLevel
      desc := { s.desc with cksum := Spec.checksumByte s.desc, status := Flag.ok }
      ch := { cfg := s.ch.cfg, rx := [], tx := [] }
      env := s.env.drop 6
      events := s.events ++ [.drain, .cfgGet s.ch.cfg, .cfgSet (Config.protoCfg s.params) true,
        .dir s.params.dirTxLevel, .tx (Spec.encodeBytes s.desc), .flush, .dir (!s.params.dirTxLevel),
        .cfgSet s.ch.cfg true]
      result := .status Flag.ok }

/-- TRANSACT with a prompt and sound response on an otherwise quiet and sound channel (R129, R119, R102, R142; the
source's scenario A for every id, instruction, count and payload): the whole next state. `STATUS = OK`, the response in
the descriptor and the header in `HDR`, the latches as R23 sets them, the configuration restored, stale bytes gone. -/
def Obligations.TransactWithAPromptResponseCompletes : Prop :=
  ∀ (s : State) (st ck : Byte) (params : List Byte) (env : List EnvMove), s.ready [.idle] → s.desc.wf = true →
    s.busEn = true → s.desc.id ≠ 254 → params.length ≤ 253 →
    ck = complementByte (s.desc.id.toNat + (params.length + 2) + st.toNat + byteSum params) →
    s.env = List.replicate 5 ({} : EnvMove) ++ ({ arrive := [0xFF, 0xFF, s.desc.id, BitVec.ofNat 8 (params.length + 2), st]
      ++ params ++ [ck] } : EnvMove) :: env →
    env.all EnvMove.quiet = true → (env.all fun m => m.configureOk) = true →
    exec (.transact params.length) s = .next { s with
      pollcnt := 0, expId := s.desc.id, expCnt := params.length
      hdr := #v[0xFF, 0xFF, s.desc.id, BitVec.ofNat 8 (params.length + 2), st]
      dir := !s.params.dirTxLevel, savedCfg := s.ch.cfg, savedValid := false
      desc := { s.desc with
        len := BitVec.ofNat 8 (params.length + 2), instr := st, addr := 255, pcnt := 255, idn := 0
        data := overwrite s.desc.data params, cksum := ck, status := Flag.ok }
      ch := { cfg := s.ch.cfg, rx := [], tx := [] }
      env := env.drop (if params = [] then 3 else 4)
      events := s.events ++ [.drain, .cfgGet s.ch.cfg, .cfgSet (Config.protoCfg s.params) true,
          .dir s.params.dirTxLevel, .tx (Spec.encodeBytes s.desc), .flush, .dir (!s.params.dirTxLevel),
          .avail (params.length + 6)]
        ++ [.rx 5 5 [0xFF, 0xFF, s.desc.id, BitVec.ofNat 8 (params.length + 2), st]]
        ++ Spec.tapped s [0xFF, 0xFF, s.desc.id, BitVec.ofNat 8 (params.length + 2), st]
        ++ (if params = [] then [] else [.rx params.length params.length params]) ++ Spec.tapped s params
        ++ [.rx 1 1 [ck]] ++ Spec.tapped s [ck] ++ [.cfgSet s.ch.cfg true]
      result := .status Flag.ok }

/-- R130, R131, R129 for every channel environment: an accepted TRANSACT that returns ends in `IDLE` with nothing
saved, the line in receive or untouched, one of the six values in `STATUS`, and at most one write and three reads
done. -/
def Obligations.TransactReturnsToIdleWithAKnownStatus : Prop :=
  ∀ (s : State) (n : Nat), s.ready [.idle] → s.desc.wf = true → n ≤ 253 → s.savedValid = false →
    ∃ (t : State) (new : List Event), exec (.transact n) s = .next t ∧ t.events = s.events ++ new ∧
      new.countP Event.isTx ≤ 1 ∧ new.countP Event.isRx ≤ 3 ∧
      (t.hung = none → t.phase = .idle ∧ t.savedValid = false ∧ t.result = .status t.desc.status ∧
        (t.dir = s.dir ∨ t.dir = !s.params.dirTxLevel) ∧
        (t.desc.status = Flag.fail ∨ t.desc.status = Flag.comInternal ∨ t.desc.status = Flag.ok ∨
          t.desc.status = Flag.comTimeout ∨ t.desc.status = Flag.comError ∨ t.desc.status = Flag.checksumError))

/-- The cleanup guarantee (R128, R51 item 6): a TRANSACT that returns either caused no event and left the channel's
configuration alone, or its last event is the restoring `CfgSet` of the configuration the channel had before it; when
that call took effect the channel has that configuration again. -/
def Obligations.TransactLeavesTheChannelAsItWas : Prop :=
  ∀ (s t : State) (n : Nat), exec (.transact n) s = .next t → t.hung = none →
    (t.events = s.events ∧ t.ch = s.ch) ∨
    ∃ (new : List Event) (ok : Bool), t.events = s.events ++ new ∧ new.getLast? = some (.cfgSet s.ch.cfg ok) ∧
      (ok = true → t.ch.cfg = s.ch.cfg)

/-- The order of a transaction's events (R51): a TRANSACT that returns, and whose `PROTO_CFG` was applied, caused the
drain, the save, the configuration, the four events of SEND, then only events of RECEIVE (none for a broadcast), then
the restoring `CfgSet`. -/
def Obligations.TransactionEventsComeInTheGuaranteedOrder : Prop :=
  ∀ (s t : State) (n : Nat), exec (.transact n) s = .next t → t.hung = none → s.busEn = true →
    (Spec.move s 2).configureOk = true →
    ∃ (middle : List Event) (ok : Bool), t.events = s.events ++
        ([.drain, .cfgGet s.ch.cfg, .cfgSet (Config.protoCfg s.params) true, .dir s.params.dirTxLevel,
          .tx (Spec.encodeBytes s.desc), .flush, .dir (!s.params.dirTxLevel)] ++ middle ++ [.cfgSet s.ch.cfg ok]) ∧
      (∀ e ∈ middle, Spec.isReceiveEvent e = true) ∧ (s.desc.id = 254 → middle = [])

/-! ## What is refused -/

/-- R111's table, for a machine with no command running: which command is refused for its phase, and that the others
are not. That RECEIVE is not refused after one that a broadcast id skipped follows R111 and R119 against R124's last
sentence (the model's choice, log 28). -/
def Obligations.CommandsAreRefusedExactlyOutOfPhase : Prop :=
  ∀ (s : State) (n : Nat) (fn : TapFn) (ctx : TapCtx), s.hung = none →
    (exec .beginTxn s = .refused .wrongPhase ↔ s.phase ≠ .idle) ∧
    (exec .send s = .refused .wrongPhase ↔ s.phase ≠ .reserved) ∧
    (exec (.receive n) s = .refused .wrongPhase ↔ s.phase ≠ .sending) ∧
    (exec (.transact n) s = .refused .wrongPhase ↔ s.phase ≠ .idle) ∧
    (∃ t, exec .endTxn s = .next t ∧ t.phase = .idle) ∧
    (∃ t, exec (.setTap fn ctx) s = .next t ∧ t.phase = s.phase) ∧
    (∀ r, exec .checksum s = .refused r → r = .notWellFormed ∧ s.desc.wf = false) ∧
    (∀ r, exec .encode s = .refused r → r = .notWellFormed ∧ s.desc.wf = false)

/-- An ill-formed descriptor is refused by SEND and TRANSACT in the phase that accepts them, an `expectedParamCount`
above 253 by RECEIVE and TRANSACT (R70, R71, R72). -/
def Obligations.IllFormedOperandsAreRefused : Prop :=
  ∀ (s : State) (n : Nat), s.hung = none →
    (s.phase = .reserved → s.desc.wf = false → exec .send s = .refused .notWellFormed) ∧
    (s.phase = .idle → s.desc.wf = false → exec (.transact n) s = .refused .notWellFormed) ∧
    (s.phase = .sending → 253 < n → exec (.receive n) s = .refused .countOutOfRange) ∧
    (s.phase = .idle → s.desc.wf = true → 253 < n → exec (.transact n) s = .refused .countOutOfRange)

/-- The reserved command codes (R72; U11), and a DECODE issued by the host, whatever its operands (R69, R111), are
refused in every state. -/
def Obligations.ReservedCodesAndHostDecodeAreRefused : Prop :=
  (∀ (s : State) (i : Instr), i ∈ [Instr.reserved0, .reservedA, .reservedB, .reservedC, .reservedD, .reservedE,
      .reservedF] → exec i s = .refused .reservedCommand) ∧
  ∀ (s : State) (hdr : Vector Byte 5) (id : Byte) (n : Nat), exec (.decode hdr id n) s = .refused .decodeByHost

/-- No command is accepted while another has not returned (R131). -/
def Obligations.NoCommandIsAcceptedWhileOneRuns : Prop :=
  ∀ (s : State) (n : Nat) (fn : TapFn) (ctx : TapCtx) (i : Instr), s.hung ≠ none →
    i ∈ [Instr.beginTxn, .send, .receive n, .endTxn, .transact n, .setTap fn ctx, .checksum, .encode] →
    exec i s = .refused .commandRunning

/-! ## The tap -/

/-- SETTAP (R140): an empty callback changes nothing, any other replaces handle and context; in every phase. -/
def Obligations.SetTapReplacesTheSubscriber : Prop :=
  ∀ (s : State) (k : Nat) (ctx : TapCtx), s.hung = none →
    exec (.setTap .empty ctx) s = .next s ∧
    exec (.setTap (.handle k) ctx) s = .next { s with tapFn := .handle k, tapCtx := ctx, tapValid := true }

/-- The tap is passive (R144): every instruction but SETTAP does the same to the state and to every other event
whether or not a subscriber is registered. -/
def Obligations.TapNeverAltersTheOutcome : Prop :=
  ∀ (i : Instr) (s : State), (∀ fn ctx, i ≠ .setTap fn ctx) →
    exec i s.withoutTap = Spec.mapNext State.withoutTap (exec i s)

/-- What the subscriber sees (R142, R143, R51 item 5): each read that returned a byte is followed at once by the
delivery of exactly its bytes, and nothing else is delivered; with no subscriber nothing is. -/
def Obligations.TapSeesExactlyTheBytesRead : Prop :=
  ∀ (i : Instr) (s t : State), exec i s = .next t →
    ∃ new : List Event, t.events = s.events ++ new ∧
      (s.tapValid = true → Spec.tapsFollowReads s.tapFn s.tapCtx new ∧
        new.flatMap Event.tapBytes = new.flatMap Event.rxBytes) ∧
      (s.tapValid = false → new.countP Event.isTap = 0)

/-- There is no way to remove a subscriber but reset (R141). -/
def Obligations.SubscriberStaysUntilReset : Prop :=
  ∀ s t : State, s.tapValid = true → s.inputs.head? ≠ some .reset → step s = .next t → t.tapValid = true

/-! ## Packets on the line -/

/-- The six wire forms arrive byte by byte as R61 and R66 lay them out and change nothing else (R31, R60 to R63, R66;
log 2). -/
def Obligations.PacketsOnTheLineArriveInTheReceiveStream : Prop :=
  ∀ (s : State) (id len instr addr pcnt ck : Byte) (data : List Byte) (a : Option Byte)
    (groups : List (Byte × List Byte)),
    exec (.reqPlain id len instr data ck) s = .next { s with ch := { s.ch with
      rx := s.ch.rx ++ ([0xFF, 0xFF, id, len, instr] ++ data ++ [ck]) } } ∧
    exec (.reqAddr id len instr addr data ck) s = .next { s with ch := { s.ch with
      rx := s.ch.rx ++ ([0xFF, 0xFF, id, len, instr, addr] ++ data ++ [ck]) } } ∧
    exec (.reqPcnt id len instr pcnt data ck) s = .next { s with ch := { s.ch with
      rx := s.ch.rx ++ ([0xFF, 0xFF, id, len, instr, pcnt] ++ data ++ [ck]) } } ∧
    exec (.reqAddrPcnt id len instr addr pcnt data ck) s = .next { s with ch := { s.ch with
      rx := s.ch.rx ++ ([0xFF, 0xFF, id, len, instr, addr, pcnt] ++ data ++ [ck]) } } ∧
    exec (.reqSync id len instr a pcnt groups ck) s = .next { s with ch := { s.ch with
      rx := s.ch.rx ++ ([0xFF, 0xFF, id, len, instr] ++ a.toList ++ [pcnt]
        ++ (groups.map fun g => g.1 :: g.2).flatten ++ [ck]) } } ∧
    exec (.resp id len instr data ck) s = .next { s with ch := { s.ch with
      rx := s.ch.rx ++ ([0xFF, 0xFF, id, len, instr] ++ data ++ [ck]) } }

/-! ## The whole machine -/

/-- The framer's invariant is kept by every step from every state that meets it (R22, R23, R26, R27, R115, R126, R154,
R208). -/
def Obligations.EveryStepKeepsTheInvariant : Prop :=
  ∀ s t : State, s.Inv → step s = .next t → t.Inv

/-- The state after reset meets the invariant. -/
def Obligations.ResetMeetsTheInvariant : Prop := State.reset.Inv

/-- The parameters are the same for every transaction and no step changes them (R29, R193). -/
def Obligations.NoStepChangesTheParameters : Prop :=
  ∀ s t : State, step s = .next t → t.params = s.params

/-- The event history and the record of refusals only grow (R50, R111). -/
def Obligations.HistoryOnlyGrows : Prop :=
  ∀ s t : State, step s = .next t →
    (∃ new, t.events = s.events ++ new) ∧ ∃ new, t.refusals = s.refusals ++ new

/-- Which commands write the descriptor and `SAVED_CFG`. `STATUS` is written by RECEIVE and TRANSACT only, the rest of
the descriptor but `CKSUM` likewise; `CKSUM` also by SEND and ENCODE (R11 to R19). `SAVED_CFG` is written by BEGIN and
TRANSACT only, so that it is kept from a BEGIN to its END in every channel environment (R27, R128). -/
def Obligations.DescriptorAndSavedCfgAreWrittenByTheirCommandsOnly : Prop :=
  ∀ (i : Instr) (s t : State), (∀ n, i ≠ .transact n) → exec i s = .next t →
    ((∀ n, i ≠ .receive n) →
      { t.desc with cksum := s.desc.cksum } = s.desc ∧ (i ≠ .send → i ≠ .encode → t.desc.cksum = s.desc.cksum)) ∧
    (i ≠ .beginTxn → t.savedCfg = s.savedCfg)

/-- The framer never raises an exception (R150): no instruction faults in any state. -/
def Obligations.NoInstructionFaults : Prop :=
  ∀ (i : Instr) (s : State) (f : Fault), exec i s ≠ .fault f

/-- The bus-enable flag gates BEGIN and TRANSACT only (R25, R162): no instruction writes it, and every other
instruction does the same whatever its value. -/
def Obligations.BusEnableGatesBeginAndTransactOnly : Prop :=
  (∀ (i : Instr) (s t : State), exec i s = .next t → t.busEn = s.busEn) ∧
  ∀ (i : Instr) (s : State) (b : Bool), i ≠ .beginTxn → (∀ n, i ≠ .transact n) →
    exec i { s with busEn := b } = Spec.mapNext (fun t => { t with busEn := b }) (exec i s)

/-- `RAW_BOUNDED` is indistinguishable from `GENERIC` (R126; 90_conflicts.md C8): every instruction does the same in
both modes. -/
def Obligations.RawBoundedBehavesAsGeneric : Prop :=
  ∀ (i : Instr) (s : State), s.params.rxByteMode = .generic →
    exec i { s with params := { s.params with rxByteMode := .rawBounded } } =
      Spec.mapNext (fun t => { t with params := { t.params with rxByteMode := .rawBounded } }) (exec i s)
end

