-- ==== Sys2Proof/Laws/Buffers.lean ====
section
/-! SUPPORT. The byte buffers: what a read gives after a write (spec/10_state.md R16, spec/40_codec.md R100), and the
byte sum and its complement (spec/40_codec.md R91). -/

namespace Sys2Proof.Machine

theorem readBuf_of_lt {n : Nat} (v : Vector Byte n) (i : Nat) (h : i < n) : readBuf v i = v[i] := by
  simp [readBuf, List.getD, h]

theorem overwrite_toList {n : Nat} (v : Vector Byte n) (bs : List Byte) :
    (overwrite v bs).toList = (bs ++ v.toList.drop bs.length).take n := by
  simp [overwrite, Vector.toList]

theorem overwrite_nil {n : Nat} (v : Vector Byte n) : overwrite v [] = v := by
  apply Vector.toList_inj.mp
  simp [overwrite_toList, List.take_of_length_le]

theorem overwrite_take {n : Nat} (v : Vector Byte n) (bs : List Byte) (h : bs.length ≤ n) :
    (overwrite v bs).toList.take bs.length = bs := by
  simp [overwrite_toList, List.take_take, Nat.min_eq_left h]

theorem overwrite_of_length {n : Nat} (v w : Vector Byte n) : overwrite v w.toList = w := by
  apply Vector.toList_inj.mp
  simp [overwrite_toList]

theorem readBuf_overwrite {n : Nat} (v : Vector Byte n) (bs : List Byte) (i : Nat) (hi : i < n) :
    readBuf (overwrite v bs) i = if i < bs.length then bs.getD i 0 else readBuf v i := by
  unfold readBuf
  rw [overwrite_toList, List.getD_eq_getElem?_getD, List.getElem?_take_of_lt hi]
  split
  · rename_i h
    rw [List.getElem?_append_left h, List.getD_eq_getElem?_getD]
  · rename_i h
    rw [List.getElem?_append_right (by omega), List.getElem?_drop, List.getD_eq_getElem?_getD]
    congr 2
    omega

theorem writeBuf_toList {n : Nat} (v : Vector Byte n) (i : Nat) (b : Byte) :
    (writeBuf v i b).toList = v.toList.set i b := by
  simp [writeBuf, Vector.toList]

theorem readBuf_writeBuf_self {n : Nat} (v : Vector Byte n) (i : Nat) (b : Byte) (h : i < n) :
    readBuf (writeBuf v i b) i = b := by
  unfold readBuf
  rw [writeBuf_toList]
  simp [List.getD, h]

theorem readBuf_writeBuf_other {n : Nat} (v : Vector Byte n) (i j : Nat) (b : Byte) (h : j ≠ i) :
    readBuf (writeBuf v i b) j = readBuf v j := by
  unfold readBuf
  rw [writeBuf_toList]
  simp [List.getD, h.symm]

@[simp] theorem byteSum_nil : byteSum [] = 0 := rfl

@[simp] theorem byteSum_cons (b : Byte) (bs : List Byte) : byteSum (b :: bs) = b.toNat + byteSum bs := by
  simp [byteSum]

@[simp] theorem byteSum_append (as bs : List Byte) : byteSum (as ++ bs) = byteSum as + byteSum bs := by
  simp [byteSum]

theorem byteSum_perm {as bs : List Byte} (h : as.Perm bs) : byteSum as = byteSum bs :=
  (h.map _).sum_eq

/-- The complement is `255 − (s mod 256)` (R91). -/
theorem complementByte_toNat (s : Nat) : (complementByte s).toNat = 255 - s % 256 := by
  simp [complementByte, BitVec.toNat_not]

/-- Two sums have the same complement exactly when they agree modulo 256 (R91: an 8-bit accumulator gives the same). -/
theorem complementByte_eq_iff (s t : Nat) : complementByte s = complementByte t ↔ s % 256 = t % 256 := by
  rw [← BitVec.toNat_inj, complementByte_toNat, complementByte_toNat]
  omega

end Sys2Proof.Machine
end

