-- ==== Sys2Proof/Laws/State.lean ====
section
/-! SUPPORT. One lemma per field per update of the state, true by rfl: later proofs rewrite a field of an updated state
and unfold no record update. -/

namespace Sys2Proof.Machine

@[simp] theorem emit_desc (e : Event) (s : State) : (emit e s).desc = s.desc := rfl
@[simp] theorem emit_phase (e : Event) (s : State) : (emit e s).phase = s.phase := rfl
@[simp] theorem emit_pollcnt (e : Event) (s : State) : (emit e s).pollcnt = s.pollcnt := rfl
@[simp] theorem emit_expId (e : Event) (s : State) : (emit e s).expId = s.expId := rfl
@[simp] theorem emit_expCnt (e : Event) (s : State) : (emit e s).expCnt = s.expCnt := rfl
@[simp] theorem emit_hdr (e : Event) (s : State) : (emit e s).hdr = s.hdr := rfl
@[simp] theorem emit_busEn (e : Event) (s : State) : (emit e s).busEn = s.busEn := rfl
@[simp] theorem emit_dir (e : Event) (s : State) : (emit e s).dir = s.dir := rfl
@[simp] theorem emit_savedCfg (e : Event) (s : State) : (emit e s).savedCfg = s.savedCfg := rfl
@[simp] theorem emit_savedValid (e : Event) (s : State) : (emit e s).savedValid = s.savedValid := rfl
@[simp] theorem emit_tapFn (e : Event) (s : State) : (emit e s).tapFn = s.tapFn := rfl
@[simp] theorem emit_tapCtx (e : Event) (s : State) : (emit e s).tapCtx = s.tapCtx := rfl
@[simp] theorem emit_tapValid (e : Event) (s : State) : (emit e s).tapValid = s.tapValid := rfl
@[simp] theorem emit_ch (e : Event) (s : State) : (emit e s).ch = s.ch := rfl
@[simp] theorem emit_params (e : Event) (s : State) : (emit e s).params = s.params := rfl
@[simp] theorem emit_hung (e : Event) (s : State) : (emit e s).hung = s.hung := rfl
@[simp] theorem emit_result (e : Event) (s : State) : (emit e s).result = s.result := rfl
@[simp] theorem emit_events (e : Event) (s : State) : (emit e s).events = s.events ++ [e] := rfl
@[simp] theorem emit_refusals (e : Event) (s : State) : (emit e s).refusals = s.refusals := rfl
@[simp] theorem emit_inputs (e : Event) (s : State) : (emit e s).inputs = s.inputs := rfl
@[simp] theorem emit_env (e : Event) (s : State) : (emit e s).env = s.env := rfl
@[simp] theorem emit_free (e : Event) (s : State) : (emit e s).free = s.free := rfl

@[simp] theorem envTick_desc (s : State) : (envTick s).desc = s.desc := rfl
@[simp] theorem envTick_phase (s : State) : (envTick s).phase = s.phase := rfl
@[simp] theorem envTick_pollcnt (s : State) : (envTick s).pollcnt = s.pollcnt := rfl
@[simp] theorem envTick_expId (s : State) : (envTick s).expId = s.expId := rfl
@[simp] theorem envTick_expCnt (s : State) : (envTick s).expCnt = s.expCnt := rfl
@[simp] theorem envTick_hdr (s : State) : (envTick s).hdr = s.hdr := rfl
@[simp] theorem envTick_busEn (s : State) : (envTick s).busEn = s.busEn := rfl
@[simp] theorem envTick_dir (s : State) : (envTick s).dir = s.dir := rfl
@[simp] theorem envTick_savedCfg (s : State) : (envTick s).savedCfg = s.savedCfg := rfl
@[simp] theorem envTick_savedValid (s : State) : (envTick s).savedValid = s.savedValid := rfl
@[simp] theorem envTick_tapFn (s : State) : (envTick s).tapFn = s.tapFn := rfl
@[simp] theorem envTick_tapCtx (s : State) : (envTick s).tapCtx = s.tapCtx := rfl
@[simp] theorem envTick_tapValid (s : State) : (envTick s).tapValid = s.tapValid := rfl
@[simp] theorem envTick_ch (s : State) : (envTick s).ch = { cfg := s.ch.cfg, rx := s.ch.rx ++ (nextMove s).arrive, tx := s.ch.tx } := rfl
@[simp] theorem envTick_params (s : State) : (envTick s).params = s.params := rfl
@[simp] theorem envTick_hung (s : State) : (envTick s).hung = s.hung := rfl
@[simp] theorem envTick_result (s : State) : (envTick s).result = s.result := rfl
@[simp] theorem envTick_events (s : State) : (envTick s).events = s.events := rfl
@[simp] theorem envTick_refusals (s : State) : (envTick s).refusals = s.refusals := rfl
@[simp] theorem envTick_inputs (s : State) : (envTick s).inputs = s.inputs := rfl
@[simp] theorem envTick_env (s : State) : (envTick s).env = s.env.tail := rfl
@[simp] theorem envTick_free (s : State) : (envTick s).free = s.free := rfl

@[simp] theorem arrive_desc (bs : List Byte) (s : State) : (arrive bs s).desc = s.desc := rfl
@[simp] theorem arrive_phase (bs : List Byte) (s : State) : (arrive bs s).phase = s.phase := rfl
@[simp] theorem arrive_pollcnt (bs : List Byte) (s : State) : (arrive bs s).pollcnt = s.pollcnt := rfl
@[simp] theorem arrive_expId (bs : List Byte) (s : State) : (arrive bs s).expId = s.expId := rfl
@[simp] theorem arrive_expCnt (bs : List Byte) (s : State) : (arrive bs s).expCnt = s.expCnt := rfl
@[simp] theorem arrive_hdr (bs : List Byte) (s : State) : (arrive bs s).hdr = s.hdr := rfl
@[simp] theorem arrive_busEn (bs : List Byte) (s : State) : (arrive bs s).busEn = s.busEn := rfl
@[simp] theorem arrive_dir (bs : List Byte) (s : State) : (arrive bs s).dir = s.dir := rfl
@[simp] theorem arrive_savedCfg (bs : List Byte) (s : State) : (arrive bs s).savedCfg = s.savedCfg := rfl
@[simp] theorem arrive_savedValid (bs : List Byte) (s : State) : (arrive bs s).savedValid = s.savedValid := rfl
@[simp] theorem arrive_tapFn (bs : List Byte) (s : State) : (arrive bs s).tapFn = s.tapFn := rfl
@[simp] theorem arrive_tapCtx (bs : List Byte) (s : State) : (arrive bs s).tapCtx = s.tapCtx := rfl
@[simp] theorem arrive_tapValid (bs : List Byte) (s : State) : (arrive bs s).tapValid = s.tapValid := rfl
@[simp] theorem arrive_ch (bs : List Byte) (s : State) : (arrive bs s).ch = { cfg := s.ch.cfg, rx := s.ch.rx ++ bs, tx := s.ch.tx } := rfl
@[simp] theorem arrive_params (bs : List Byte) (s : State) : (arrive bs s).params = s.params := rfl
@[simp] theorem arrive_hung (bs : List Byte) (s : State) : (arrive bs s).hung = s.hung := rfl
@[simp] theorem arrive_result (bs : List Byte) (s : State) : (arrive bs s).result = s.result := rfl
@[simp] theorem arrive_events (bs : List Byte) (s : State) : (arrive bs s).events = s.events := rfl
@[simp] theorem arrive_refusals (bs : List Byte) (s : State) : (arrive bs s).refusals = s.refusals := rfl
@[simp] theorem arrive_inputs (bs : List Byte) (s : State) : (arrive bs s).inputs = s.inputs := rfl
@[simp] theorem arrive_env (bs : List Byte) (s : State) : (arrive bs s).env = s.env := rfl
@[simp] theorem arrive_free (bs : List Byte) (s : State) : (arrive bs s).free = s.free := rfl

@[simp] theorem chDrain_desc (s : State) : (chDrain s).desc = s.desc := rfl
@[simp] theorem chDrain_phase (s : State) : (chDrain s).phase = s.phase := rfl
@[simp] theorem chDrain_pollcnt (s : State) : (chDrain s).pollcnt = s.pollcnt := rfl
@[simp] theorem chDrain_expId (s : State) : (chDrain s).expId = s.expId := rfl
@[simp] theorem chDrain_expCnt (s : State) : (chDrain s).expCnt = s.expCnt := rfl
@[simp] theorem chDrain_hdr (s : State) : (chDrain s).hdr = s.hdr := rfl
@[simp] theorem chDrain_busEn (s : State) : (chDrain s).busEn = s.busEn := rfl
@[simp] theorem chDrain_dir (s : State) : (chDrain s).dir = s.dir := rfl
@[simp] theorem chDrain_savedCfg (s : State) : (chDrain s).savedCfg = s.savedCfg := rfl
@[simp] theorem chDrain_savedValid (s : State) : (chDrain s).savedValid = s.savedValid := rfl
@[simp] theorem chDrain_tapFn (s : State) : (chDrain s).tapFn = s.tapFn := rfl
@[simp] theorem chDrain_tapCtx (s : State) : (chDrain s).tapCtx = s.tapCtx := rfl
@[simp] theorem chDrain_tapValid (s : State) : (chDrain s).tapValid = s.tapValid := rfl
@[simp] theorem chDrain_ch (s : State) : (chDrain s).ch = { cfg := s.ch.cfg, rx := [], tx := s.ch.tx } := rfl
@[simp] theorem chDrain_params (s : State) : (chDrain s).params = s.params := rfl
@[simp] theorem chDrain_hung (s : State) : (chDrain s).hung = s.hung := rfl
@[simp] theorem chDrain_result (s : State) : (chDrain s).result = s.result := rfl
@[simp] theorem chDrain_events (s : State) : (chDrain s).events = s.events ++ [.drain] := rfl
@[simp] theorem chDrain_refusals (s : State) : (chDrain s).refusals = s.refusals := rfl
@[simp] theorem chDrain_inputs (s : State) : (chDrain s).inputs = s.inputs := rfl
@[simp] theorem chDrain_env (s : State) : (chDrain s).env = s.env.tail := rfl
@[simp] theorem chDrain_free (s : State) : (chDrain s).free = s.free := rfl

@[simp] theorem chGetConfig_desc (s : State) : ((chGetConfig s).2).desc = s.desc := rfl
@[simp] theorem chGetConfig_phase (s : State) : ((chGetConfig s).2).phase = s.phase := rfl
@[simp] theorem chGetConfig_pollcnt (s : State) : ((chGetConfig s).2).pollcnt = s.pollcnt := rfl
@[simp] theorem chGetConfig_expId (s : State) : ((chGetConfig s).2).expId = s.expId := rfl
@[simp] theorem chGetConfig_expCnt (s : State) : ((chGetConfig s).2).expCnt = s.expCnt := rfl
@[simp] theorem chGetConfig_hdr (s : State) : ((chGetConfig s).2).hdr = s.hdr := rfl
@[simp] theorem chGetConfig_busEn (s : State) : ((chGetConfig s).2).busEn = s.busEn := rfl
@[simp] theorem chGetConfig_dir (s : State) : ((chGetConfig s).2).dir = s.dir := rfl
@[simp] theorem chGetConfig_savedCfg (s : State) : ((chGetConfig s).2).savedCfg = s.savedCfg := rfl
@[simp] theorem chGetConfig_savedValid (s : State) : ((chGetConfig s).2).savedValid = s.savedValid := rfl
@[simp] theorem chGetConfig_tapFn (s : State) : ((chGetConfig s).2).tapFn = s.tapFn := rfl
@[simp] theorem chGetConfig_tapCtx (s : State) : ((chGetConfig s).2).tapCtx = s.tapCtx := rfl
@[simp] theorem chGetConfig_tapValid (s : State) : ((chGetConfig s).2).tapValid = s.tapValid := rfl
@[simp] theorem chGetConfig_ch (s : State) : ((chGetConfig s).2).ch = { cfg := s.ch.cfg, rx := s.ch.rx ++ (nextMove s).arrive, tx := s.ch.tx } := rfl
@[simp] theorem chGetConfig_params (s : State) : ((chGetConfig s).2).params = s.params := rfl
@[simp] theorem chGetConfig_hung (s : State) : ((chGetConfig s).2).hung = s.hung := rfl
@[simp] theorem chGetConfig_result (s : State) : ((chGetConfig s).2).result = s.result := rfl
@[simp] theorem chGetConfig_events (s : State) : ((chGetConfig s).2).events = s.events ++ [.cfgGet s.ch.cfg] := rfl
@[simp] theorem chGetConfig_refusals (s : State) : ((chGetConfig s).2).refusals = s.refusals := rfl
@[simp] theorem chGetConfig_inputs (s : State) : ((chGetConfig s).2).inputs = s.inputs := rfl
@[simp] theorem chGetConfig_env (s : State) : ((chGetConfig s).2).env = s.env.tail := rfl
@[simp] theorem chGetConfig_free (s : State) : ((chGetConfig s).2).free = s.free := rfl

@[simp] theorem chWrite_desc (bs : List Byte) (s : State) : (chWrite bs s).desc = s.desc := rfl
@[simp] theorem chWrite_phase (bs : List Byte) (s : State) : (chWrite bs s).phase = s.phase := rfl
@[simp] theorem chWrite_pollcnt (bs : List Byte) (s : State) : (chWrite bs s).pollcnt = s.pollcnt := rfl
@[simp] theorem chWrite_expId (bs : List Byte) (s : State) : (chWrite bs s).expId = s.expId := rfl
@[simp] theorem chWrite_expCnt (bs : List Byte) (s : State) : (chWrite bs s).expCnt = s.expCnt := rfl
@[simp] theorem chWrite_hdr (bs : List Byte) (s : State) : (chWrite bs s).hdr = s.hdr := rfl
@[simp] theorem chWrite_busEn (bs : List Byte) (s : State) : (chWrite bs s).busEn = s.busEn := rfl
@[simp] theorem chWrite_dir (bs : List Byte) (s : State) : (chWrite bs s).dir = s.dir := rfl
@[simp] theorem chWrite_savedCfg (bs : List Byte) (s : State) : (chWrite bs s).savedCfg = s.savedCfg := rfl
@[simp] theorem chWrite_savedValid (bs : List Byte) (s : State) : (chWrite bs s).savedValid = s.savedValid := rfl
@[simp] theorem chWrite_tapFn (bs : List Byte) (s : State) : (chWrite bs s).tapFn = s.tapFn := rfl
@[simp] theorem chWrite_tapCtx (bs : List Byte) (s : State) : (chWrite bs s).tapCtx = s.tapCtx := rfl
@[simp] theorem chWrite_tapValid (bs : List Byte) (s : State) : (chWrite bs s).tapValid = s.tapValid := rfl
@[simp] theorem chWrite_ch (bs : List Byte) (s : State) : (chWrite bs s).ch = { cfg := s.ch.cfg, rx := s.ch.rx ++ (nextMove s).arrive, tx := s.ch.tx ++ bs } := rfl
@[simp] theorem chWrite_params (bs : List Byte) (s : State) : (chWrite bs s).params = s.params := rfl
@[simp] theorem chWrite_hung (bs : List Byte) (s : State) : (chWrite bs s).hung = s.hung := rfl
@[simp] theorem chWrite_result (bs : List Byte) (s : State) : (chWrite bs s).result = s.result := rfl
@[simp] theorem chWrite_events (bs : List Byte) (s : State) : (chWrite bs s).events = s.events ++ [.tx bs] := rfl
@[simp] theorem chWrite_refusals (bs : List Byte) (s : State) : (chWrite bs s).refusals = s.refusals := rfl
@[simp] theorem chWrite_inputs (bs : List Byte) (s : State) : (chWrite bs s).inputs = s.inputs := rfl
@[simp] theorem chWrite_env (bs : List Byte) (s : State) : (chWrite bs s).env = s.env.tail := rfl
@[simp] theorem chWrite_free (bs : List Byte) (s : State) : (chWrite bs s).free = s.free := rfl

@[simp] theorem chAvail_desc (s : State) : ((chAvail s).2).desc = s.desc := rfl
@[simp] theorem chAvail_phase (s : State) : ((chAvail s).2).phase = s.phase := rfl
@[simp] theorem chAvail_pollcnt (s : State) : ((chAvail s).2).pollcnt = s.pollcnt := rfl
@[simp] theorem chAvail_expId (s : State) : ((chAvail s).2).expId = s.expId := rfl
@[simp] theorem chAvail_expCnt (s : State) : ((chAvail s).2).expCnt = s.expCnt := rfl
@[simp] theorem chAvail_hdr (s : State) : ((chAvail s).2).hdr = s.hdr := rfl
@[simp] theorem chAvail_busEn (s : State) : ((chAvail s).2).busEn = s.busEn := rfl
@[simp] theorem chAvail_dir (s : State) : ((chAvail s).2).dir = s.dir := rfl
@[simp] theorem chAvail_savedCfg (s : State) : ((chAvail s).2).savedCfg = s.savedCfg := rfl
@[simp] theorem chAvail_savedValid (s : State) : ((chAvail s).2).savedValid = s.savedValid := rfl
@[simp] theorem chAvail_tapFn (s : State) : ((chAvail s).2).tapFn = s.tapFn := rfl
@[simp] theorem chAvail_tapCtx (s : State) : ((chAvail s).2).tapCtx = s.tapCtx := rfl
@[simp] theorem chAvail_tapValid (s : State) : ((chAvail s).2).tapValid = s.tapValid := rfl
@[simp] theorem chAvail_ch (s : State) : ((chAvail s).2).ch = { cfg := s.ch.cfg, rx := s.ch.rx ++ (nextMove s).arrive, tx := s.ch.tx } := rfl
@[simp] theorem chAvail_params (s : State) : ((chAvail s).2).params = s.params := rfl
@[simp] theorem chAvail_hung (s : State) : ((chAvail s).2).hung = s.hung := rfl
@[simp] theorem chAvail_result (s : State) : ((chAvail s).2).result = s.result := rfl
@[simp] theorem chAvail_events (s : State) : ((chAvail s).2).events = s.events ++ [.avail (chAvail s).1] := rfl
@[simp] theorem chAvail_refusals (s : State) : ((chAvail s).2).refusals = s.refusals := rfl
@[simp] theorem chAvail_inputs (s : State) : ((chAvail s).2).inputs = s.inputs := rfl
@[simp] theorem chAvail_env (s : State) : ((chAvail s).2).env = s.env.tail := rfl
@[simp] theorem chAvail_free (s : State) : ((chAvail s).2).free = s.free := rfl

@[simp] theorem pollSleep_desc (s : State) : (pollSleep s).desc = s.desc := rfl
@[simp] theorem pollSleep_phase (s : State) : (pollSleep s).phase = s.phase := rfl
@[simp] theorem pollSleep_pollcnt (s : State) : (pollSleep s).pollcnt = s.pollcnt + 1 := rfl
@[simp] theorem pollSleep_expId (s : State) : (pollSleep s).expId = s.expId := rfl
@[simp] theorem pollSleep_expCnt (s : State) : (pollSleep s).expCnt = s.expCnt := rfl
@[simp] theorem pollSleep_hdr (s : State) : (pollSleep s).hdr = s.hdr := rfl
@[simp] theorem pollSleep_busEn (s : State) : (pollSleep s).busEn = s.busEn := rfl
@[simp] theorem pollSleep_dir (s : State) : (pollSleep s).dir = s.dir := rfl
@[simp] theorem pollSleep_savedCfg (s : State) : (pollSleep s).savedCfg = s.savedCfg := rfl
@[simp] theorem pollSleep_savedValid (s : State) : (pollSleep s).savedValid = s.savedValid := rfl
@[simp] theorem pollSleep_tapFn (s : State) : (pollSleep s).tapFn = s.tapFn := rfl
@[simp] theorem pollSleep_tapCtx (s : State) : (pollSleep s).tapCtx = s.tapCtx := rfl
@[simp] theorem pollSleep_tapValid (s : State) : (pollSleep s).tapValid = s.tapValid := rfl
@[simp] theorem pollSleep_ch (s : State) : (pollSleep s).ch = { cfg := s.ch.cfg, rx := s.ch.rx ++ (nextMove s).arrive, tx := s.ch.tx } := rfl
@[simp] theorem pollSleep_params (s : State) : (pollSleep s).params = s.params := rfl
@[simp] theorem pollSleep_hung (s : State) : (pollSleep s).hung = s.hung := rfl
@[simp] theorem pollSleep_result (s : State) : (pollSleep s).result = s.result := rfl
@[simp] theorem pollSleep_events (s : State) : (pollSleep s).events = s.events ++ [.sleep Config.pollUs] := rfl
@[simp] theorem pollSleep_refusals (s : State) : (pollSleep s).refusals = s.refusals := rfl
@[simp] theorem pollSleep_inputs (s : State) : (pollSleep s).inputs = s.inputs := rfl
@[simp] theorem pollSleep_env (s : State) : (pollSleep s).env = s.env.tail := rfl
@[simp] theorem pollSleep_free (s : State) : (pollSleep s).free = s.free := rfl

@[simp] theorem dirSet_desc (level : Bool) (s : State) : (dirSet level s).desc = s.desc := rfl
@[simp] theorem dirSet_phase (level : Bool) (s : State) : (dirSet level s).phase = s.phase := rfl
@[simp] theorem dirSet_pollcnt (level : Bool) (s : State) : (dirSet level s).pollcnt = s.pollcnt := rfl
@[simp] theorem dirSet_expId (level : Bool) (s : State) : (dirSet level s).expId = s.expId := rfl
@[simp] theorem dirSet_expCnt (level : Bool) (s : State) : (dirSet level s).expCnt = s.expCnt := rfl
@[simp] theorem dirSet_hdr (level : Bool) (s : State) : (dirSet level s).hdr = s.hdr := rfl
@[simp] theorem dirSet_busEn (level : Bool) (s : State) : (dirSet level s).busEn = s.busEn := rfl
@[simp] theorem dirSet_dir (level : Bool) (s : State) : (dirSet level s).dir = level := rfl
@[simp] theorem dirSet_savedCfg (level : Bool) (s : State) : (dirSet level s).savedCfg = s.savedCfg := rfl
@[simp] theorem dirSet_savedValid (level : Bool) (s : State) : (dirSet level s).savedValid = s.savedValid := rfl
@[simp] theorem dirSet_tapFn (level : Bool) (s : State) : (dirSet level s).tapFn = s.tapFn := rfl
@[simp] theorem dirSet_tapCtx (level : Bool) (s : State) : (dirSet level s).tapCtx = s.tapCtx := rfl
@[simp] theorem dirSet_tapValid (level : Bool) (s : State) : (dirSet level s).tapValid = s.tapValid := rfl
@[simp] theorem dirSet_ch (level : Bool) (s : State) : (dirSet level s).ch = s.ch := rfl
@[simp] theorem dirSet_params (level : Bool) (s : State) : (dirSet level s).params = s.params := rfl
@[simp] theorem dirSet_hung (level : Bool) (s : State) : (dirSet level s).hung = s.hung := rfl
@[simp] theorem dirSet_result (level : Bool) (s : State) : (dirSet level s).result = s.result := rfl
@[simp] theorem dirSet_events (level : Bool) (s : State) : (dirSet level s).events = s.events ++ [.dir level] := rfl
@[simp] theorem dirSet_refusals (level : Bool) (s : State) : (dirSet level s).refusals = s.refusals := rfl
@[simp] theorem dirSet_inputs (level : Bool) (s : State) : (dirSet level s).inputs = s.inputs := rfl
@[simp] theorem dirSet_env (level : Bool) (s : State) : (dirSet level s).env = s.env := rfl
@[simp] theorem dirSet_free (level : Bool) (s : State) : (dirSet level s).free = s.free := rfl

@[simp] theorem setStatus_desc (flags : Byte) (s : State) : (setStatus flags s).desc = { s.desc with status := flags } := rfl
@[simp] theorem setStatus_phase (flags : Byte) (s : State) : (setStatus flags s).phase = s.phase := rfl
@[simp] theorem setStatus_pollcnt (flags : Byte) (s : State) : (setStatus flags s).pollcnt = s.pollcnt := rfl
@[simp] theorem setStatus_expId (flags : Byte) (s : State) : (setStatus flags s).expId = s.expId := rfl
@[simp] theorem setStatus_expCnt (flags : Byte) (s : State) : (setStatus flags s).expCnt = s.expCnt := rfl
@[simp] theorem setStatus_hdr (flags : Byte) (s : State) : (setStatus flags s).hdr = s.hdr := rfl
@[simp] theorem setStatus_busEn (flags : Byte) (s : State) : (setStatus flags s).busEn = s.busEn := rfl
@[simp] theorem setStatus_dir (flags : Byte) (s : State) : (setStatus flags s).dir = s.dir := rfl
@[simp] theorem setStatus_savedCfg (flags : Byte) (s : State) : (setStatus flags s).savedCfg = s.savedCfg := rfl
@[simp] theorem setStatus_savedValid (flags : Byte) (s : State) : (setStatus flags s).savedValid = s.savedValid := rfl
@[simp] theorem setStatus_tapFn (flags : Byte) (s : State) : (setStatus flags s).tapFn = s.tapFn := rfl
@[simp] theorem setStatus_tapCtx (flags : Byte) (s : State) : (setStatus flags s).tapCtx = s.tapCtx := rfl
@[simp] theorem setStatus_tapValid (flags : Byte) (s : State) : (setStatus flags s).tapValid = s.tapValid := rfl
@[simp] theorem setStatus_ch (flags : Byte) (s : State) : (setStatus flags s).ch = s.ch := rfl
@[simp] theorem setStatus_params (flags : Byte) (s : State) : (setStatus flags s).params = s.params := rfl
@[simp] theorem setStatus_hung (flags : Byte) (s : State) : (setStatus flags s).hung = s.hung := rfl
@[simp] theorem setStatus_result (flags : Byte) (s : State) : (setStatus flags s).result = s.result := rfl
@[simp] theorem setStatus_events (flags : Byte) (s : State) : (setStatus flags s).events = s.events := rfl
@[simp] theorem setStatus_refusals (flags : Byte) (s : State) : (setStatus flags s).refusals = s.refusals := rfl
@[simp] theorem setStatus_inputs (flags : Byte) (s : State) : (setStatus flags s).inputs = s.inputs := rfl
@[simp] theorem setStatus_env (flags : Byte) (s : State) : (setStatus flags s).env = s.env := rfl
@[simp] theorem setStatus_free (flags : Byte) (s : State) : (setStatus flags s).free = s.free := rfl

@[simp] theorem setCksum_desc (b : Byte) (s : State) : (setCksum b s).desc = { s.desc with cksum := b } := rfl
@[simp] theorem setCksum_phase (b : Byte) (s : State) : (setCksum b s).phase = s.phase := rfl
@[simp] theorem setCksum_pollcnt (b : Byte) (s : State) : (setCksum b s).pollcnt = s.pollcnt := rfl
@[simp] theorem setCksum_expId (b : Byte) (s : State) : (setCksum b s).expId = s.expId := rfl
@[simp] theorem setCksum_expCnt (b : Byte) (s : State) : (setCksum b s).expCnt = s.expCnt := rfl
@[simp] theorem setCksum_hdr (b : Byte) (s : State) : (setCksum b s).hdr = s.hdr := rfl
@[simp] theorem setCksum_busEn (b : Byte) (s : State) : (setCksum b s).busEn = s.busEn := rfl
@[simp] theorem setCksum_dir (b : Byte) (s : State) : (setCksum b s).dir = s.dir := rfl
@[simp] theorem setCksum_savedCfg (b : Byte) (s : State) : (setCksum b s).savedCfg = s.savedCfg := rfl
@[simp] theorem setCksum_savedValid (b : Byte) (s : State) : (setCksum b s).savedValid = s.savedValid := rfl
@[simp] theorem setCksum_tapFn (b : Byte) (s : State) : (setCksum b s).tapFn = s.tapFn := rfl
@[simp] theorem setCksum_tapCtx (b : Byte) (s : State) : (setCksum b s).tapCtx = s.tapCtx := rfl
@[simp] theorem setCksum_tapValid (b : Byte) (s : State) : (setCksum b s).tapValid = s.tapValid := rfl
@[simp] theorem setCksum_ch (b : Byte) (s : State) : (setCksum b s).ch = s.ch := rfl
@[simp] theorem setCksum_params (b : Byte) (s : State) : (setCksum b s).params = s.params := rfl
@[simp] theorem setCksum_hung (b : Byte) (s : State) : (setCksum b s).hung = s.hung := rfl
@[simp] theorem setCksum_result (b : Byte) (s : State) : (setCksum b s).result = s.result := rfl
@[simp] theorem setCksum_events (b : Byte) (s : State) : (setCksum b s).events = s.events := rfl
@[simp] theorem setCksum_refusals (b : Byte) (s : State) : (setCksum b s).refusals = s.refusals := rfl
@[simp] theorem setCksum_inputs (b : Byte) (s : State) : (setCksum b s).inputs = s.inputs := rfl
@[simp] theorem setCksum_env (b : Byte) (s : State) : (setCksum b s).env = s.env := rfl
@[simp] theorem setCksum_free (b : Byte) (s : State) : (setCksum b s).free = s.free := rfl

@[simp] theorem setData_desc (bs : List Byte) (s : State) : (setData bs s).desc = { s.desc with data := overwrite s.desc.data bs } := rfl
@[simp] theorem setData_phase (bs : List Byte) (s : State) : (setData bs s).phase = s.phase := rfl
@[simp] theorem setData_pollcnt (bs : List Byte) (s : State) : (setData bs s).pollcnt = s.pollcnt := rfl
@[simp] theorem setData_expId (bs : List Byte) (s : State) : (setData bs s).expId = s.expId := rfl
@[simp] theorem setData_expCnt (bs : List Byte) (s : State) : (setData bs s).expCnt = s.expCnt := rfl
@[simp] theorem setData_hdr (bs : List Byte) (s : State) : (setData bs s).hdr = s.hdr := rfl
@[simp] theorem setData_busEn (bs : List Byte) (s : State) : (setData bs s).busEn = s.busEn := rfl
@[simp] theorem setData_dir (bs : List Byte) (s : State) : (setData bs s).dir = s.dir := rfl
@[simp] theorem setData_savedCfg (bs : List Byte) (s : State) : (setData bs s).savedCfg = s.savedCfg := rfl
@[simp] theorem setData_savedValid (bs : List Byte) (s : State) : (setData bs s).savedValid = s.savedValid := rfl
@[simp] theorem setData_tapFn (bs : List Byte) (s : State) : (setData bs s).tapFn = s.tapFn := rfl
@[simp] theorem setData_tapCtx (bs : List Byte) (s : State) : (setData bs s).tapCtx = s.tapCtx := rfl
@[simp] theorem setData_tapValid (bs : List Byte) (s : State) : (setData bs s).tapValid = s.tapValid := rfl
@[simp] theorem setData_ch (bs : List Byte) (s : State) : (setData bs s).ch = s.ch := rfl
@[simp] theorem setData_params (bs : List Byte) (s : State) : (setData bs s).params = s.params := rfl
@[simp] theorem setData_hung (bs : List Byte) (s : State) : (setData bs s).hung = s.hung := rfl
@[simp] theorem setData_result (bs : List Byte) (s : State) : (setData bs s).result = s.result := rfl
@[simp] theorem setData_events (bs : List Byte) (s : State) : (setData bs s).events = s.events := rfl
@[simp] theorem setData_refusals (bs : List Byte) (s : State) : (setData bs s).refusals = s.refusals := rfl
@[simp] theorem setData_inputs (bs : List Byte) (s : State) : (setData bs s).inputs = s.inputs := rfl
@[simp] theorem setData_env (bs : List Byte) (s : State) : (setData bs s).env = s.env := rfl
@[simp] theorem setData_free (bs : List Byte) (s : State) : (setData bs s).free = s.free := rfl

@[simp] theorem setResult_desc (r : CmdResult) (s : State) : (setResult r s).desc = s.desc := rfl
@[simp] theorem setResult_phase (r : CmdResult) (s : State) : (setResult r s).phase = s.phase := rfl
@[simp] theorem setResult_pollcnt (r : CmdResult) (s : State) : (setResult r s).pollcnt = s.pollcnt := rfl
@[simp] theorem setResult_expId (r : CmdResult) (s : State) : (setResult r s).expId = s.expId := rfl
@[simp] theorem setResult_expCnt (r : CmdResult) (s : State) : (setResult r s).expCnt = s.expCnt := rfl
@[simp] theorem setResult_hdr (r : CmdResult) (s : State) : (setResult r s).hdr = s.hdr := rfl
@[simp] theorem setResult_busEn (r : CmdResult) (s : State) : (setResult r s).busEn = s.busEn := rfl
@[simp] theorem setResult_dir (r : CmdResult) (s : State) : (setResult r s).dir = s.dir := rfl
@[simp] theorem setResult_savedCfg (r : CmdResult) (s : State) : (setResult r s).savedCfg = s.savedCfg := rfl
@[simp] theorem setResult_savedValid (r : CmdResult) (s : State) : (setResult r s).savedValid = s.savedValid := rfl
@[simp] theorem setResult_tapFn (r : CmdResult) (s : State) : (setResult r s).tapFn = s.tapFn := rfl
@[simp] theorem setResult_tapCtx (r : CmdResult) (s : State) : (setResult r s).tapCtx = s.tapCtx := rfl
@[simp] theorem setResult_tapValid (r : CmdResult) (s : State) : (setResult r s).tapValid = s.tapValid := rfl
@[simp] theorem setResult_ch (r : CmdResult) (s : State) : (setResult r s).ch = s.ch := rfl
@[simp] theorem setResult_params (r : CmdResult) (s : State) : (setResult r s).params = s.params := rfl
@[simp] theorem setResult_hung (r : CmdResult) (s : State) : (setResult r s).hung = s.hung := rfl
@[simp] theorem setResult_result (r : CmdResult) (s : State) : (setResult r s).result = r := rfl
@[simp] theorem setResult_events (r : CmdResult) (s : State) : (setResult r s).events = s.events := rfl
@[simp] theorem setResult_refusals (r : CmdResult) (s : State) : (setResult r s).refusals = s.refusals := rfl
@[simp] theorem setResult_inputs (r : CmdResult) (s : State) : (setResult r s).inputs = s.inputs := rfl
@[simp] theorem setResult_env (r : CmdResult) (s : State) : (setResult r s).env = s.env := rfl
@[simp] theorem setResult_free (r : CmdResult) (s : State) : (setResult r s).free = s.free := rfl

@[simp] theorem writeChecksum_desc (s : State) : (writeChecksum s).desc = { s.desc with cksum := s.desc.checksum } := rfl
@[simp] theorem writeChecksum_phase (s : State) : (writeChecksum s).phase = s.phase := rfl
@[simp] theorem writeChecksum_pollcnt (s : State) : (writeChecksum s).pollcnt = s.pollcnt := rfl
@[simp] theorem writeChecksum_expId (s : State) : (writeChecksum s).expId = s.expId := rfl
@[simp] theorem writeChecksum_expCnt (s : State) : (writeChecksum s).expCnt = s.expCnt := rfl
@[simp] theorem writeChecksum_hdr (s : State) : (writeChecksum s).hdr = s.hdr := rfl
@[simp] theorem writeChecksum_busEn (s : State) : (writeChecksum s).busEn = s.busEn := rfl
@[simp] theorem writeChecksum_dir (s : State) : (writeChecksum s).dir = s.dir := rfl
@[simp] theorem writeChecksum_savedCfg (s : State) : (writeChecksum s).savedCfg = s.savedCfg := rfl
@[simp] theorem writeChecksum_savedValid (s : State) : (writeChecksum s).savedValid = s.savedValid := rfl
@[simp] theorem writeChecksum_tapFn (s : State) : (writeChecksum s).tapFn = s.tapFn := rfl
@[simp] theorem writeChecksum_tapCtx (s : State) : (writeChecksum s).tapCtx = s.tapCtx := rfl
@[simp] theorem writeChecksum_tapValid (s : State) : (writeChecksum s).tapValid = s.tapValid := rfl
@[simp] theorem writeChecksum_ch (s : State) : (writeChecksum s).ch = s.ch := rfl
@[simp] theorem writeChecksum_params (s : State) : (writeChecksum s).params = s.params := rfl
@[simp] theorem writeChecksum_hung (s : State) : (writeChecksum s).hung = s.hung := rfl
@[simp] theorem writeChecksum_result (s : State) : (writeChecksum s).result = s.result := rfl
@[simp] theorem writeChecksum_events (s : State) : (writeChecksum s).events = s.events := rfl
@[simp] theorem writeChecksum_refusals (s : State) : (writeChecksum s).refusals = s.refusals := rfl
@[simp] theorem writeChecksum_inputs (s : State) : (writeChecksum s).inputs = s.inputs := rfl
@[simp] theorem writeChecksum_env (s : State) : (writeChecksum s).env = s.env := rfl
@[simp] theorem writeChecksum_free (s : State) : (writeChecksum s).free = s.free := rfl

@[simp] theorem captureHeader_desc (s : State) : (captureHeader s).desc = { s.desc with id := readBuf s.hdr 2, len := readBuf s.hdr 3, instr := readBuf s.hdr 4, addr := Config.absent, pcnt := Config.absent, idn := 0 } := rfl
@[simp] theorem captureHeader_phase (s : State) : (captureHeader s).phase = s.phase := rfl
@[simp] theorem captureHeader_pollcnt (s : State) : (captureHeader s).pollcnt = s.pollcnt := rfl
@[simp] theorem captureHeader_expId (s : State) : (captureHeader s).expId = s.expId := rfl
@[simp] theorem captureHeader_expCnt (s : State) : (captureHeader s).expCnt = s.expCnt := rfl
@[simp] theorem captureHeader_hdr (s : State) : (captureHeader s).hdr = s.hdr := rfl
@[simp] theorem captureHeader_busEn (s : State) : (captureHeader s).busEn = s.busEn := rfl
@[simp] theorem captureHeader_dir (s : State) : (captureHeader s).dir = s.dir := rfl
@[simp] theorem captureHeader_savedCfg (s : State) : (captureHeader s).savedCfg = s.savedCfg := rfl
@[simp] theorem captureHeader_savedValid (s : State) : (captureHeader s).savedValid = s.savedValid := rfl
@[simp] theorem captureHeader_tapFn (s : State) : (captureHeader s).tapFn = s.tapFn := rfl
@[simp] theorem captureHeader_tapCtx (s : State) : (captureHeader s).tapCtx = s.tapCtx := rfl
@[simp] theorem captureHeader_tapValid (s : State) : (captureHeader s).tapValid = s.tapValid := rfl
@[simp] theorem captureHeader_ch (s : State) : (captureHeader s).ch = s.ch := rfl
@[simp] theorem captureHeader_params (s : State) : (captureHeader s).params = s.params := rfl
@[simp] theorem captureHeader_hung (s : State) : (captureHeader s).hung = s.hung := rfl
@[simp] theorem captureHeader_result (s : State) : (captureHeader s).result = s.result := rfl
@[simp] theorem captureHeader_events (s : State) : (captureHeader s).events = s.events := rfl
@[simp] theorem captureHeader_refusals (s : State) : (captureHeader s).refusals = s.refusals := rfl
@[simp] theorem captureHeader_inputs (s : State) : (captureHeader s).inputs = s.inputs := rfl
@[simp] theorem captureHeader_env (s : State) : (captureHeader s).env = s.env := rfl
@[simp] theorem captureHeader_free (s : State) : (captureHeader s).free = s.free := rfl

@[simp] theorem latchReceive_desc (n : Nat) (s : State) : (latchReceive n s).desc = s.desc := rfl
@[simp] theorem latchReceive_phase (n : Nat) (s : State) : (latchReceive n s).phase = .receiving := rfl
@[simp] theorem latchReceive_pollcnt (n : Nat) (s : State) : (latchReceive n s).pollcnt = 0 := rfl
@[simp] theorem latchReceive_expId (n : Nat) (s : State) : (latchReceive n s).expId = s.desc.id := rfl
@[simp] theorem latchReceive_expCnt (n : Nat) (s : State) : (latchReceive n s).expCnt = n := rfl
@[simp] theorem latchReceive_hdr (n : Nat) (s : State) : (latchReceive n s).hdr = s.hdr := rfl
@[simp] theorem latchReceive_busEn (n : Nat) (s : State) : (latchReceive n s).busEn = s.busEn := rfl
@[simp] theorem latchReceive_dir (n : Nat) (s : State) : (latchReceive n s).dir = s.dir := rfl
@[simp] theorem latchReceive_savedCfg (n : Nat) (s : State) : (latchReceive n s).savedCfg = s.savedCfg := rfl
@[simp] theorem latchReceive_savedValid (n : Nat) (s : State) : (latchReceive n s).savedValid = s.savedValid := rfl
@[simp] theorem latchReceive_tapFn (n : Nat) (s : State) : (latchReceive n s).tapFn = s.tapFn := rfl
@[simp] theorem latchReceive_tapCtx (n : Nat) (s : State) : (latchReceive n s).tapCtx = s.tapCtx := rfl
@[simp] theorem latchReceive_tapValid (n : Nat) (s : State) : (latchReceive n s).tapValid = s.tapValid := rfl
@[simp] theorem latchReceive_ch (n : Nat) (s : State) : (latchReceive n s).ch = s.ch := rfl
@[simp] theorem latchReceive_params (n : Nat) (s : State) : (latchReceive n s).params = s.params := rfl
@[simp] theorem latchReceive_hung (n : Nat) (s : State) : (latchReceive n s).hung = s.hung := rfl
@[simp] theorem latchReceive_result (n : Nat) (s : State) : (latchReceive n s).result = s.result := rfl
@[simp] theorem latchReceive_events (n : Nat) (s : State) : (latchReceive n s).events = s.events := rfl
@[simp] theorem latchReceive_refusals (n : Nat) (s : State) : (latchReceive n s).refusals = s.refusals := rfl
@[simp] theorem latchReceive_inputs (n : Nat) (s : State) : (latchReceive n s).inputs = s.inputs := rfl
@[simp] theorem latchReceive_env (n : Nat) (s : State) : (latchReceive n s).env = s.env := rfl
@[simp] theorem latchReceive_free (n : Nat) (s : State) : (latchReceive n s).free = s.free := rfl

@[simp] theorem recordRefusal_desc (r : Refusal) (s : State) : (recordRefusal r s).desc = s.desc := rfl
@[simp] theorem recordRefusal_phase (r : Refusal) (s : State) : (recordRefusal r s).phase = s.phase := rfl
@[simp] theorem recordRefusal_pollcnt (r : Refusal) (s : State) : (recordRefusal r s).pollcnt = s.pollcnt := rfl
@[simp] theorem recordRefusal_expId (r : Refusal) (s : State) : (recordRefusal r s).expId = s.expId := rfl
@[simp] theorem recordRefusal_expCnt (r : Refusal) (s : State) : (recordRefusal r s).expCnt = s.expCnt := rfl
@[simp] theorem recordRefusal_hdr (r : Refusal) (s : State) : (recordRefusal r s).hdr = s.hdr := rfl
@[simp] theorem recordRefusal_busEn (r : Refusal) (s : State) : (recordRefusal r s).busEn = s.busEn := rfl
@[simp] theorem recordRefusal_dir (r : Refusal) (s : State) : (recordRefusal r s).dir = s.dir := rfl
@[simp] theorem recordRefusal_savedCfg (r : Refusal) (s : State) : (recordRefusal r s).savedCfg = s.savedCfg := rfl
@[simp] theorem recordRefusal_savedValid (r : Refusal) (s : State) : (recordRefusal r s).savedValid = s.savedValid := rfl
@[simp] theorem recordRefusal_tapFn (r : Refusal) (s : State) : (recordRefusal r s).tapFn = s.tapFn := rfl
@[simp] theorem recordRefusal_tapCtx (r : Refusal) (s : State) : (recordRefusal r s).tapCtx = s.tapCtx := rfl
@[simp] theorem recordRefusal_tapValid (r : Refusal) (s : State) : (recordRefusal r s).tapValid = s.tapValid := rfl
@[simp] theorem recordRefusal_ch (r : Refusal) (s : State) : (recordRefusal r s).ch = s.ch := rfl
@[simp] theorem recordRefusal_params (r : Refusal) (s : State) : (recordRefusal r s).params = s.params := rfl
@[simp] theorem recordRefusal_hung (r : Refusal) (s : State) : (recordRefusal r s).hung = s.hung := rfl
@[simp] theorem recordRefusal_result (r : Refusal) (s : State) : (recordRefusal r s).result = s.result := rfl
@[simp] theorem recordRefusal_events (r : Refusal) (s : State) : (recordRefusal r s).events = s.events := rfl
@[simp] theorem recordRefusal_refusals (r : Refusal) (s : State) : (recordRefusal r s).refusals = s.refusals ++ [r] := rfl
@[simp] theorem recordRefusal_inputs (r : Refusal) (s : State) : (recordRefusal r s).inputs = s.inputs := rfl
@[simp] theorem recordRefusal_env (r : Refusal) (s : State) : (recordRefusal r s).env = s.env := rfl
@[simp] theorem recordRefusal_free (r : Refusal) (s : State) : (recordRefusal r s).free = s.free := rfl

@[simp] theorem setChannelCfg_desc (c : Settings) (s : State) : (setChannelCfg c s).desc = s.desc := rfl
@[simp] theorem setChannelCfg_phase (c : Settings) (s : State) : (setChannelCfg c s).phase = s.phase := rfl
@[simp] theorem setChannelCfg_pollcnt (c : Settings) (s : State) : (setChannelCfg c s).pollcnt = s.pollcnt := rfl
@[simp] theorem setChannelCfg_expId (c : Settings) (s : State) : (setChannelCfg c s).expId = s.expId := rfl
@[simp] theorem setChannelCfg_expCnt (c : Settings) (s : State) : (setChannelCfg c s).expCnt = s.expCnt := rfl
@[simp] theorem setChannelCfg_hdr (c : Settings) (s : State) : (setChannelCfg c s).hdr = s.hdr := rfl
@[simp] theorem setChannelCfg_busEn (c : Settings) (s : State) : (setChannelCfg c s).busEn = s.busEn := rfl
@[simp] theorem setChannelCfg_dir (c : Settings) (s : State) : (setChannelCfg c s).dir = s.dir := rfl
@[simp] theorem setChannelCfg_savedCfg (c : Settings) (s : State) : (setChannelCfg c s).savedCfg = s.savedCfg := rfl
@[simp] theorem setChannelCfg_savedValid (c : Settings) (s : State) : (setChannelCfg c s).savedValid = s.savedValid := rfl
@[simp] theorem setChannelCfg_tapFn (c : Settings) (s : State) : (setChannelCfg c s).tapFn = s.tapFn := rfl
@[simp] theorem setChannelCfg_tapCtx (c : Settings) (s : State) : (setChannelCfg c s).tapCtx = s.tapCtx := rfl
@[simp] theorem setChannelCfg_tapValid (c : Settings) (s : State) : (setChannelCfg c s).tapValid = s.tapValid := rfl
@[simp] theorem setChannelCfg_ch (c : Settings) (s : State) : (setChannelCfg c s).ch = { cfg := c, rx := s.ch.rx, tx := s.ch.tx } := rfl
@[simp] theorem setChannelCfg_params (c : Settings) (s : State) : (setChannelCfg c s).params = s.params := rfl
@[simp] theorem setChannelCfg_hung (c : Settings) (s : State) : (setChannelCfg c s).hung = s.hung := rfl
@[simp] theorem setChannelCfg_result (c : Settings) (s : State) : (setChannelCfg c s).result = s.result := rfl
@[simp] theorem setChannelCfg_events (c : Settings) (s : State) : (setChannelCfg c s).events = s.events := rfl
@[simp] theorem setChannelCfg_refusals (c : Settings) (s : State) : (setChannelCfg c s).refusals = s.refusals := rfl
@[simp] theorem setChannelCfg_inputs (c : Settings) (s : State) : (setChannelCfg c s).inputs = s.inputs := rfl
@[simp] theorem setChannelCfg_env (c : Settings) (s : State) : (setChannelCfg c s).env = s.env := rfl
@[simp] theorem setChannelCfg_free (c : Settings) (s : State) : (setChannelCfg c s).free = s.free := rfl

@[simp] theorem setBusEnable_desc (b : Bool) (s : State) : (setBusEnable b s).desc = s.desc := rfl
@[simp] theorem setBusEnable_phase (b : Bool) (s : State) : (setBusEnable b s).phase = s.phase := rfl
@[simp] theorem setBusEnable_pollcnt (b : Bool) (s : State) : (setBusEnable b s).pollcnt = s.pollcnt := rfl
@[simp] theorem setBusEnable_expId (b : Bool) (s : State) : (setBusEnable b s).expId = s.expId := rfl
@[simp] theorem setBusEnable_expCnt (b : Bool) (s : State) : (setBusEnable b s).expCnt = s.expCnt := rfl
@[simp] theorem setBusEnable_hdr (b : Bool) (s : State) : (setBusEnable b s).hdr = s.hdr := rfl
@[simp] theorem setBusEnable_busEn (b : Bool) (s : State) : (setBusEnable b s).busEn = b := rfl
@[simp] theorem setBusEnable_dir (b : Bool) (s : State) : (setBusEnable b s).dir = s.dir := rfl
@[simp] theorem setBusEnable_savedCfg (b : Bool) (s : State) : (setBusEnable b s).savedCfg = s.savedCfg := rfl
@[simp] theorem setBusEnable_savedValid (b : Bool) (s : State) : (setBusEnable b s).savedValid = s.savedValid := rfl
@[simp] theorem setBusEnable_tapFn (b : Bool) (s : State) : (setBusEnable b s).tapFn = s.tapFn := rfl
@[simp] theorem setBusEnable_tapCtx (b : Bool) (s : State) : (setBusEnable b s).tapCtx = s.tapCtx := rfl
@[simp] theorem setBusEnable_tapValid (b : Bool) (s : State) : (setBusEnable b s).tapValid = s.tapValid := rfl
@[simp] theorem setBusEnable_ch (b : Bool) (s : State) : (setBusEnable b s).ch = s.ch := rfl
@[simp] theorem setBusEnable_params (b : Bool) (s : State) : (setBusEnable b s).params = s.params := rfl
@[simp] theorem setBusEnable_hung (b : Bool) (s : State) : (setBusEnable b s).hung = s.hung := rfl
@[simp] theorem setBusEnable_result (b : Bool) (s : State) : (setBusEnable b s).result = s.result := rfl
@[simp] theorem setBusEnable_events (b : Bool) (s : State) : (setBusEnable b s).events = s.events := rfl
@[simp] theorem setBusEnable_refusals (b : Bool) (s : State) : (setBusEnable b s).refusals = s.refusals := rfl
@[simp] theorem setBusEnable_inputs (b : Bool) (s : State) : (setBusEnable b s).inputs = s.inputs := rfl
@[simp] theorem setBusEnable_env (b : Bool) (s : State) : (setBusEnable b s).env = s.env := rfl
@[simp] theorem setBusEnable_free (b : Bool) (s : State) : (setBusEnable b s).free = s.free := rfl

@[simp] theorem chGetConfig_fst (s : State) : (chGetConfig s).1 = s.ch.cfg := rfl

theorem chAvail_fst (s : State) :
    (chAvail s).1 = (nextMove s).avail.getD (s.ch.rx ++ (nextMove s).arrive).length := rfl

end Sys2Proof.Machine
end

