-- ==== Sys2Proof/Laws/Ops.lean ====
section
/-! SUPPORT. For each shared operation, once, everything it can do: the cases of the operations that branch, the fields
no operation touches, and what the availability poll does. Later proofs cite these and unfold no operation. -/

namespace Sys2Proof.Machine

/-! ## The operations that branch -/

theorem nextMove_eq (s : State) : nextMove s = s.env.getD 0 {} := by
  unfold nextMove; cases s.env <;> rfl

@[simp] theorem chConfigure_desc (c : Settings) (s : State) : (chConfigure c s).2.desc = s.desc := by
  unfold chConfigure; dsimp only; split <;> rfl
@[simp] theorem chConfigure_phase (c : Settings) (s : State) : (chConfigure c s).2.phase = s.phase := by
  unfold chConfigure; dsimp only; split <;> rfl
@[simp] theorem chConfigure_pollcnt (c : Settings) (s : State) : (chConfigure c s).2.pollcnt = s.pollcnt := by
  unfold chConfigure; dsimp only; split <;> rfl
@[simp] theorem chConfigure_expId (c : Settings) (s : State) : (chConfigure c s).2.expId = s.expId := by
  unfold chConfigure; dsimp only; split <;> rfl
@[simp] theorem chConfigure_expCnt (c : Settings) (s : State) : (chConfigure c s).2.expCnt = s.expCnt := by
  unfold chConfigure; dsimp only; split <;> rfl
@[simp] theorem chConfigure_hdr (c : Settings) (s : State) : (chConfigure c s).2.hdr = s.hdr := by
  unfold chConfigure; dsimp only; split <;> rfl
@[simp] theorem chConfigure_busEn (c : Settings) (s : State) : (chConfigure c s).2.busEn = s.busEn := by
  unfold chConfigure; dsimp only; split <;> rfl
@[simp] theorem chConfigure_dir (c : Settings) (s : State) : (chConfigure c s).2.dir = s.dir := by
  unfold chConfigure; dsimp only; split <;> rfl
@[simp] theorem chConfigure_savedCfg (c : Settings) (s : State) : (chConfigure c s).2.savedCfg = s.savedCfg := by
  unfold chConfigure; dsimp only; split <;> rfl
@[simp] theorem chConfigure_savedValid (c : Settings) (s : State) : (chConfigure c s).2.savedValid = s.savedValid := by
  unfold chConfigure; dsimp only; split <;> rfl
@[simp] theorem chConfigure_tapFn (c : Settings) (s : State) : (chConfigure c s).2.tapFn = s.tapFn := by
  unfold chConfigure; dsimp only; split <;> rfl
@[simp] theorem chConfigure_tapCtx (c : Settings) (s : State) : (chConfigure c s).2.tapCtx = s.tapCtx := by
  unfold chConfigure; dsimp only; split <;> rfl
@[simp] theorem chConfigure_tapValid (c : Settings) (s : State) : (chConfigure c s).2.tapValid = s.tapValid := by
  unfold chConfigure; dsimp only; split <;> rfl
@[simp] theorem chConfigure_params (c : Settings) (s : State) : (chConfigure c s).2.params = s.params := by
  unfold chConfigure; dsimp only; split <;> rfl
@[simp] theorem chConfigure_hung (c : Settings) (s : State) : (chConfigure c s).2.hung = s.hung := by
  unfold chConfigure; dsimp only; split <;> rfl
@[simp] theorem chConfigure_result (c : Settings) (s : State) : (chConfigure c s).2.result = s.result := by
  unfold chConfigure; dsimp only; split <;> rfl
@[simp] theorem chConfigure_refusals (c : Settings) (s : State) : (chConfigure c s).2.refusals = s.refusals := by
  unfold chConfigure; dsimp only; split <;> rfl
@[simp] theorem chConfigure_inputs (c : Settings) (s : State) : (chConfigure c s).2.inputs = s.inputs := by
  unfold chConfigure; dsimp only; split <;> rfl
@[simp] theorem chConfigure_env (c : Settings) (s : State) : (chConfigure c s).2.env = s.env.tail := by
  unfold chConfigure; dsimp only; split <;> rfl
@[simp] theorem chConfigure_fst (c : Settings) (s : State) : (chConfigure c s).1 = (nextMove s).configureOk := by
  unfold chConfigure; dsimp only; split <;> simp_all
@[simp] theorem chConfigure_events (c : Settings) (s : State) :
    (chConfigure c s).2.events = s.events ++ [.cfgSet c (nextMove s).configureOk] := by
  unfold chConfigure; dsimp only; split <;> simp_all

/-- `ChConfigure` that returns true. -/
theorem chConfigure_ok (c : Settings) (s : State) (h : (nextMove s).configureOk = true) :
    (chConfigure c s).2 = { s with
      ch := { cfg := c, rx := s.ch.rx ++ (nextMove s).arrive, tx := s.ch.tx }
      env := s.env.tail, events := s.events ++ [.cfgSet c true] } := by
  unfold chConfigure; simp only [h, if_true]; rfl

/-- `ChConfigure` that returns false. -/
theorem chConfigure_failed (c : Settings) (s : State) (h : (nextMove s).configureOk = false) :
    (chConfigure c s).2 = { s with
      ch := { cfg := Config.cfgAfterFailedConfigure s.free, rx := s.ch.rx ++ (nextMove s).arrive, tx := s.ch.tx }
      env := s.env.tail, events := s.events ++ [.cfgSet c false], free := s.free + 1 } := by
  unfold chConfigure; simp [h]; rfl

@[simp] theorem chFlush_desc (s : State) : (chFlush s).desc = s.desc := by
  unfold chFlush; dsimp only; split <;> rfl
@[simp] theorem chFlush_phase (s : State) : (chFlush s).phase = s.phase := by
  unfold chFlush; dsimp only; split <;> rfl
@[simp] theorem chFlush_pollcnt (s : State) : (chFlush s).pollcnt = s.pollcnt := by
  unfold chFlush; dsimp only; split <;> rfl
@[simp] theorem chFlush_expId (s : State) : (chFlush s).expId = s.expId := by
  unfold chFlush; dsimp only; split <;> rfl
@[simp] theorem chFlush_expCnt (s : State) : (chFlush s).expCnt = s.expCnt := by
  unfold chFlush; dsimp only; split <;> rfl
@[simp] theorem chFlush_hdr (s : State) : (chFlush s).hdr = s.hdr := by
  unfold chFlush; dsimp only; split <;> rfl
@[simp] theorem chFlush_busEn (s : State) : (chFlush s).busEn = s.busEn := by
  unfold chFlush; dsimp only; split <;> rfl
@[simp] theorem chFlush_dir (s : State) : (chFlush s).dir = s.dir := by
  unfold chFlush; dsimp only; split <;> rfl
@[simp] theorem chFlush_savedCfg (s : State) : (chFlush s).savedCfg = s.savedCfg := by
  unfold chFlush; dsimp only; split <;> rfl
@[simp] theorem chFlush_savedValid (s : State) : (chFlush s).savedValid = s.savedValid := by
  unfold chFlush; dsimp only; split <;> rfl
@[simp] theorem chFlush_tapFn (s : State) : (chFlush s).tapFn = s.tapFn := by
  unfold chFlush; dsimp only; split <;> rfl
@[simp] theorem chFlush_tapCtx (s : State) : (chFlush s).tapCtx = s.tapCtx := by
  unfold chFlush; dsimp only; split <;> rfl
@[simp] theorem chFlush_tapValid (s : State) : (chFlush s).tapValid = s.tapValid := by
  unfold chFlush; dsimp only; split <;> rfl
@[simp] theorem chFlush_params (s : State) : (chFlush s).params = s.params := by
  unfold chFlush; dsimp only; split <;> rfl
@[simp] theorem chFlush_result (s : State) : (chFlush s).result = s.result := by
  unfold chFlush; dsimp only; split <;> rfl
@[simp] theorem chFlush_refusals (s : State) : (chFlush s).refusals = s.refusals := by
  unfold chFlush; dsimp only; split <;> rfl
@[simp] theorem chFlush_inputs (s : State) : (chFlush s).inputs = s.inputs := by
  unfold chFlush; dsimp only; split <;> rfl
@[simp] theorem chFlush_free (s : State) : (chFlush s).free = s.free := by
  unfold chFlush; dsimp only; split <;> rfl
@[simp] theorem chFlush_env (s : State) : (chFlush s).env = s.env.tail := by
  unfold chFlush; dsimp only; split <;> rfl
@[simp] theorem chFlush_cfg (s : State) : (chFlush s).ch.cfg = s.ch.cfg := by
  unfold chFlush; dsimp only; split <;> rfl

/-- `ChFlush` that returns. -/
theorem chFlush_returns (s : State) (h : (nextMove s).flushReturns = true) :
    chFlush s = { s with ch := { cfg := s.ch.cfg, rx := s.ch.rx ++ (nextMove s).arrive, tx := [] }
                         env := s.env.tail, events := s.events ++ [.flush] } := by
  unfold chFlush; simp only [h, if_true]; rfl

/-- `ChFlush` on a channel that never drains. -/
theorem chFlush_never (s : State) (h : (nextMove s).flushReturns = false) :
    chFlush s = { s with ch := { cfg := s.ch.cfg, rx := s.ch.rx ++ (nextMove s).arrive, tx := s.ch.tx }
                         env := s.env.tail, hung := some .flush } := by
  unfold chFlush; simp only [h]; rfl

@[simp] theorem chRead_desc (n : Nat) (s : State) : (chRead n s).2.desc = s.desc := by
  unfold chRead; dsimp only; split <;> rfl
@[simp] theorem chRead_phase (n : Nat) (s : State) : (chRead n s).2.phase = s.phase := by
  unfold chRead; dsimp only; split <;> rfl
@[simp] theorem chRead_pollcnt (n : Nat) (s : State) : (chRead n s).2.pollcnt = s.pollcnt := by
  unfold chRead; dsimp only; split <;> rfl
@[simp] theorem chRead_expId (n : Nat) (s : State) : (chRead n s).2.expId = s.expId := by
  unfold chRead; dsimp only; split <;> rfl
@[simp] theorem chRead_expCnt (n : Nat) (s : State) : (chRead n s).2.expCnt = s.expCnt := by
  unfold chRead; dsimp only; split <;> rfl
@[simp] theorem chRead_hdr (n : Nat) (s : State) : (chRead n s).2.hdr = s.hdr := by
  unfold chRead; dsimp only; split <;> rfl
@[simp] theorem chRead_busEn (n : Nat) (s : State) : (chRead n s).2.busEn = s.busEn := by
  unfold chRead; dsimp only; split <;> rfl
@[simp] theorem chRead_dir (n : Nat) (s : State) : (chRead n s).2.dir = s.dir := by
  unfold chRead; dsimp only; split <;> rfl
@[simp] theorem chRead_savedCfg (n : Nat) (s : State) : (chRead n s).2.savedCfg = s.savedCfg := by
  unfold chRead; dsimp only; split <;> rfl
@[simp] theorem chRead_savedValid (n : Nat) (s : State) : (chRead n s).2.savedValid = s.savedValid := by
  unfold chRead; dsimp only; split <;> rfl
@[simp] theorem chRead_tapFn (n : Nat) (s : State) : (chRead n s).2.tapFn = s.tapFn := by
  unfold chRead; dsimp only; split <;> rfl
@[simp] theorem chRead_tapCtx (n : Nat) (s : State) : (chRead n s).2.tapCtx = s.tapCtx := by
  unfold chRead; dsimp only; split <;> rfl
@[simp] theorem chRead_tapValid (n : Nat) (s : State) : (chRead n s).2.tapValid = s.tapValid := by
  unfold chRead; dsimp only; split <;> rfl
@[simp] theorem chRead_params (n : Nat) (s : State) : (chRead n s).2.params = s.params := by
  unfold chRead; dsimp only; split <;> rfl
@[simp] theorem chRead_result (n : Nat) (s : State) : (chRead n s).2.result = s.result := by
  unfold chRead; dsimp only; split <;> rfl
@[simp] theorem chRead_refusals (n : Nat) (s : State) : (chRead n s).2.refusals = s.refusals := by
  unfold chRead; dsimp only; split <;> rfl
@[simp] theorem chRead_inputs (n : Nat) (s : State) : (chRead n s).2.inputs = s.inputs := by
  unfold chRead; dsimp only; split <;> rfl
@[simp] theorem chRead_free (n : Nat) (s : State) : (chRead n s).2.free = s.free := by
  unfold chRead; dsimp only; split <;> rfl
@[simp] theorem chRead_env (n : Nat) (s : State) : (chRead n s).2.env = s.env.tail := by
  unfold chRead; dsimp only; split <;> rfl
@[simp] theorem chRead_cfg (n : Nat) (s : State) : (chRead n s).2.ch.cfg = s.ch.cfg := by
  unfold chRead; dsimp only; split <;> rfl
@[simp] theorem chRead_tx (n : Nat) (s : State) : (chRead n s).2.ch.tx = s.ch.tx := by
  unfold chRead; dsimp only; split <;> rfl

/-- What a `ChRead(n)` fetches: the front of `ch.rx` with the arrivals, at most `n` bytes and at most the limit. -/
def fetched (n : Nat) (s : State) : List Byte :=
  (s.ch.rx ++ (nextMove s).arrive).take (min n ((nextMove s).readLimit.getD n))

theorem fetched_length_le (n : Nat) (s : State) : (fetched n s).length ≤ n := by
  simp only [fetched, List.length_take]; omega

/-- A `ChRead` either returns what it fetched, with its event, or is stuck in `RAW_UNBOUNDED` mode (R126). -/
theorem chRead_cases (n : Nat) (s : State) :
    (((fetched n s).length = n ∨ s.params.rxByteMode ≠ .rawUnbounded) ∧ chRead n s = (fetched n s, { s with
        ch := { cfg := s.ch.cfg, rx := (s.ch.rx ++ (nextMove s).arrive).drop (fetched n s).length, tx := s.ch.tx }
        env := s.env.tail
        events := s.events ++ [.rx n (fetched n s).length (fetched n s)] })) ∨
    ((fetched n s).length < n ∧ s.params.rxByteMode = .rawUnbounded ∧ chRead n s = ([], { s with
        ch := { cfg := s.ch.cfg, rx := (s.ch.rx ++ (nextMove s).arrive).drop (fetched n s).length, tx := s.ch.tx }
        env := s.env.tail, hung := some .rawRead })) := by
  have hle := fetched_length_le n s
  by_cases h : (fetched n s).length < n ∧ s.params.rxByteMode = .rawUnbounded
  · refine .inr ⟨h.1, h.2, ?_⟩
    unfold chRead
    exact if_pos h
  · refine .inl ⟨?_, ?_⟩
    · by_cases hm : s.params.rxByteMode = .rawUnbounded
      · exact .inl (by have : ¬ (fetched n s).length < n := fun hl => h ⟨hl, hm⟩
                       omega)
      · exact .inr hm
    · unfold chRead
      exact if_neg h

@[simp] theorem tap_desc (bs : List Byte) (s : State) : (tap bs s).desc = s.desc := by
  unfold tap; split <;> rfl
@[simp] theorem tap_phase (bs : List Byte) (s : State) : (tap bs s).phase = s.phase := by
  unfold tap; split <;> rfl
@[simp] theorem tap_pollcnt (bs : List Byte) (s : State) : (tap bs s).pollcnt = s.pollcnt := by
  unfold tap; split <;> rfl
@[simp] theorem tap_expId (bs : List Byte) (s : State) : (tap bs s).expId = s.expId := by
  unfold tap; split <;> rfl
@[simp] theorem tap_expCnt (bs : List Byte) (s : State) : (tap bs s).expCnt = s.expCnt := by
  unfold tap; split <;> rfl
@[simp] theorem tap_hdr (bs : List Byte) (s : State) : (tap bs s).hdr = s.hdr := by
  unfold tap; split <;> rfl
@[simp] theorem tap_busEn (bs : List Byte) (s : State) : (tap bs s).busEn = s.busEn := by
  unfold tap; split <;> rfl
@[simp] theorem tap_dir (bs : List Byte) (s : State) : (tap bs s).dir = s.dir := by
  unfold tap; split <;> rfl
@[simp] theorem tap_savedCfg (bs : List Byte) (s : State) : (tap bs s).savedCfg = s.savedCfg := by
  unfold tap; split <;> rfl
@[simp] theorem tap_savedValid (bs : List Byte) (s : State) : (tap bs s).savedValid = s.savedValid := by
  unfold tap; split <;> rfl
@[simp] theorem tap_tapFn (bs : List Byte) (s : State) : (tap bs s).tapFn = s.tapFn := by
  unfold tap; split <;> rfl
@[simp] theorem tap_tapCtx (bs : List Byte) (s : State) : (tap bs s).tapCtx = s.tapCtx := by
  unfold tap; split <;> rfl
@[simp] theorem tap_tapValid (bs : List Byte) (s : State) : (tap bs s).tapValid = s.tapValid := by
  unfold tap; split <;> rfl
@[simp] theorem tap_ch (bs : List Byte) (s : State) : (tap bs s).ch = s.ch := by
  unfold tap; split <;> rfl
@[simp] theorem tap_params (bs : List Byte) (s : State) : (tap bs s).params = s.params := by
  unfold tap; split <;> rfl
@[simp] theorem tap_hung (bs : List Byte) (s : State) : (tap bs s).hung = s.hung := by
  unfold tap; split <;> rfl
@[simp] theorem tap_result (bs : List Byte) (s : State) : (tap bs s).result = s.result := by
  unfold tap; split <;> rfl
@[simp] theorem tap_refusals (bs : List Byte) (s : State) : (tap bs s).refusals = s.refusals := by
  unfold tap; split <;> rfl
@[simp] theorem tap_inputs (bs : List Byte) (s : State) : (tap bs s).inputs = s.inputs := by
  unfold tap; split <;> rfl
@[simp] theorem tap_env (bs : List Byte) (s : State) : (tap bs s).env = s.env := by
  unfold tap; split <;> rfl
@[simp] theorem tap_free (bs : List Byte) (s : State) : (tap bs s).free = s.free := by
  unfold tap; split <;> rfl

/-- `Tap` adds one delivery when a subscriber is registered, else nothing (R142). -/
theorem tap_eq (bs : List Byte) (s : State) :
    tap bs s = { s with events := s.events ++ if s.tapValid then [.tap s.tapFn s.tapCtx bs] else [] } := by
  unfold tap; split <;> simp [emit]

@[simp] theorem readAndTap_fst (n : Nat) (s : State) : (readAndTap n s).1 = (chRead n s).1 := rfl

@[simp] theorem readAndTap_desc (n : Nat) (s : State) : (readAndTap n s).2.desc = s.desc := by
  unfold readAndTap; dsimp only; split <;> simp
@[simp] theorem readAndTap_phase (n : Nat) (s : State) : (readAndTap n s).2.phase = s.phase := by
  unfold readAndTap; dsimp only; split <;> simp
@[simp] theorem readAndTap_pollcnt (n : Nat) (s : State) : (readAndTap n s).2.pollcnt = s.pollcnt := by
  unfold readAndTap; dsimp only; split <;> simp
@[simp] theorem readAndTap_expId (n : Nat) (s : State) : (readAndTap n s).2.expId = s.expId := by
  unfold readAndTap; dsimp only; split <;> simp
@[simp] theorem readAndTap_expCnt (n : Nat) (s : State) : (readAndTap n s).2.expCnt = s.expCnt := by
  unfold readAndTap; dsimp only; split <;> simp
@[simp] theorem readAndTap_hdr (n : Nat) (s : State) : (readAndTap n s).2.hdr = s.hdr := by
  unfold readAndTap; dsimp only; split <;> simp
@[simp] theorem readAndTap_busEn (n : Nat) (s : State) : (readAndTap n s).2.busEn = s.busEn := by
  unfold readAndTap; dsimp only; split <;> simp
@[simp] theorem readAndTap_dir (n : Nat) (s : State) : (readAndTap n s).2.dir = s.dir := by
  unfold readAndTap; dsimp only; split <;> simp
@[simp] theorem readAndTap_savedCfg (n : Nat) (s : State) : (readAndTap n s).2.savedCfg = s.savedCfg := by
  unfold readAndTap; dsimp only; split <;> simp
@[simp] theorem readAndTap_savedValid (n : Nat) (s : State) : (readAndTap n s).2.savedValid = s.savedValid := by
  unfold readAndTap; dsimp only; split <;> simp
@[simp] theorem readAndTap_tapFn (n : Nat) (s : State) : (readAndTap n s).2.tapFn = s.tapFn := by
  unfold readAndTap; dsimp only; split <;> simp
@[simp] theorem readAndTap_tapCtx (n : Nat) (s : State) : (readAndTap n s).2.tapCtx = s.tapCtx := by
  unfold readAndTap; dsimp only; split <;> simp
@[simp] theorem readAndTap_tapValid (n : Nat) (s : State) : (readAndTap n s).2.tapValid = s.tapValid := by
  unfold readAndTap; dsimp only; split <;> simp
@[simp] theorem readAndTap_params (n : Nat) (s : State) : (readAndTap n s).2.params = s.params := by
  unfold readAndTap; dsimp only; split <;> simp
@[simp] theorem readAndTap_result (n : Nat) (s : State) : (readAndTap n s).2.result = s.result := by
  unfold readAndTap; dsimp only; split <;> simp
@[simp] theorem readAndTap_refusals (n : Nat) (s : State) : (readAndTap n s).2.refusals = s.refusals := by
  unfold readAndTap; dsimp only; split <;> simp
@[simp] theorem readAndTap_inputs (n : Nat) (s : State) : (readAndTap n s).2.inputs = s.inputs := by
  unfold readAndTap; dsimp only; split <;> simp
@[simp] theorem readAndTap_free (n : Nat) (s : State) : (readAndTap n s).2.free = s.free := by
  unfold readAndTap; dsimp only; split <;> simp
@[simp] theorem readAndTap_env (n : Nat) (s : State) : (readAndTap n s).2.env = s.env.tail := by
  unfold readAndTap; dsimp only; split <;> simp
@[simp] theorem readAndTap_cfg (n : Nat) (s : State) : (readAndTap n s).2.ch.cfg = s.ch.cfg := by
  unfold readAndTap; dsimp only; split <;> simp
@[simp] theorem readAndTap_tx (n : Nat) (s : State) : (readAndTap n s).2.ch.tx = s.ch.tx := by
  unfold readAndTap; dsimp only; split <;> simp

/-- The deliveries that follow a read of `bs`: one when a subscriber is registered and a byte was read (R142). -/
def deliveries (s : State) (bs : List Byte) : List Event :=
  if s.tapValid ∧ bs ≠ [] then [.tap s.tapFn s.tapCtx bs] else []

/-- The state after a read that returned what it fetched, with its delivery to the tap. -/
def afterRead (n : Nat) (s : State) : State :=
  { s with
    ch := { cfg := s.ch.cfg, rx := (s.ch.rx ++ (nextMove s).arrive).drop (fetched n s).length, tx := s.ch.tx }
    env := s.env.tail
    events := s.events ++ .rx n (fetched n s).length (fetched n s) :: deliveries s (fetched n s) }

/-- The state in which a raw read waits for ever: the bytes there have been fetched (log 11). -/
def stuckRead (n : Nat) (s : State) : State :=
  { s with
    ch := { cfg := s.ch.cfg, rx := (s.ch.rx ++ (nextMove s).arrive).drop (fetched n s).length, tx := s.ch.tx }
    env := s.env.tail, hung := some .rawRead }

/-- A read with its delivery either returns what it fetched, or is stuck in `RAW_UNBOUNDED` mode. -/
theorem readAndTap_cases (n : Nat) (s : State) :
    (((fetched n s).length = n ∨ s.params.rxByteMode ≠ .rawUnbounded) ∧
      readAndTap n s = (fetched n s, afterRead n s)) ∨
    ((fetched n s).length < n ∧ s.params.rxByteMode = .rawUnbounded ∧ readAndTap n s = ([], stuckRead n s)) := by
  rcases chRead_cases n s with ⟨h, e⟩ | ⟨h, hm, e⟩
  · refine .inl ⟨h, ?_⟩
    unfold readAndTap
    rw [e]
    cases hb : fetched n s <;> cases ht : s.tapValid <;> simp [tap_eq, deliveries, afterRead, ht, hb]
  · refine .inr ⟨h, hm, ?_⟩
    unfold readAndTap
    rw [e]
    rfl

/-- Another user's configuration of the channel: made while `PHASE = IDLE`, else refused (R33, R210). -/
theorem otherConfigure_cases (c : Settings) (s : State) :
    (s.phase = .idle ∧ otherConfigure c s = .next (setChannelCfg c s)) ∨
    (s.phase ≠ .idle ∧ otherConfigure c s = .refused .channelOwnedByEngine) := by
  by_cases h : s.phase = .idle
  · exact .inl ⟨h, if_pos h⟩
  · exact .inr ⟨h, if_neg h⟩

/-! ## The availability poll -/

@[simp] theorem poll_desc (fuel : Nat) (s : State) : (poll fuel s).2.desc = s.desc := by
  induction fuel generalizing s with
  | zero => rfl
  | succ k ih => unfold poll; dsimp only; split <;> simp [ih]
@[simp] theorem poll_phase (fuel : Nat) (s : State) : (poll fuel s).2.phase = s.phase := by
  induction fuel generalizing s with
  | zero => rfl
  | succ k ih => unfold poll; dsimp only; split <;> simp [ih]
@[simp] theorem poll_expId (fuel : Nat) (s : State) : (poll fuel s).2.expId = s.expId := by
  induction fuel generalizing s with
  | zero => rfl
  | succ k ih => unfold poll; dsimp only; split <;> simp [ih]
@[simp] theorem poll_expCnt (fuel : Nat) (s : State) : (poll fuel s).2.expCnt = s.expCnt := by
  induction fuel generalizing s with
  | zero => rfl
  | succ k ih => unfold poll; dsimp only; split <;> simp [ih]
@[simp] theorem poll_hdr (fuel : Nat) (s : State) : (poll fuel s).2.hdr = s.hdr := by
  induction fuel generalizing s with
  | zero => rfl
  | succ k ih => unfold poll; dsimp only; split <;> simp [ih]
@[simp] theorem poll_busEn (fuel : Nat) (s : State) : (poll fuel s).2.busEn = s.busEn := by
  induction fuel generalizing s with
  | zero => rfl
  | succ k ih => unfold poll; dsimp only; split <;> simp [ih]
@[simp] theorem poll_dir (fuel : Nat) (s : State) : (poll fuel s).2.dir = s.dir := by
  induction fuel generalizing s with
  | zero => rfl
  | succ k ih => unfold poll; dsimp only; split <;> simp [ih]
@[simp] theorem poll_savedCfg (fuel : Nat) (s : State) : (poll fuel s).2.savedCfg = s.savedCfg := by
  induction fuel generalizing s with
  | zero => rfl
  | succ k ih => unfold poll; dsimp only; split <;> simp [ih]
@[simp] theorem poll_savedValid (fuel : Nat) (s : State) : (poll fuel s).2.savedValid = s.savedValid := by
  induction fuel generalizing s with
  | zero => rfl
  | succ k ih => unfold poll; dsimp only; split <;> simp [ih]
@[simp] theorem poll_tapFn (fuel : Nat) (s : State) : (poll fuel s).2.tapFn = s.tapFn := by
  induction fuel generalizing s with
  | zero => rfl
  | succ k ih => unfold poll; dsimp only; split <;> simp [ih]
@[simp] theorem poll_tapCtx (fuel : Nat) (s : State) : (poll fuel s).2.tapCtx = s.tapCtx := by
  induction fuel generalizing s with
  | zero => rfl
  | succ k ih => unfold poll; dsimp only; split <;> simp [ih]
@[simp] theorem poll_tapValid (fuel : Nat) (s : State) : (poll fuel s).2.tapValid = s.tapValid := by
  induction fuel generalizing s with
  | zero => rfl
  | succ k ih => unfold poll; dsimp only; split <;> simp [ih]
@[simp] theorem poll_params (fuel : Nat) (s : State) : (poll fuel s).2.params = s.params := by
  induction fuel generalizing s with
  | zero => rfl
  | succ k ih => unfold poll; dsimp only; split <;> simp [ih]
@[simp] theorem poll_hung (fuel : Nat) (s : State) : (poll fuel s).2.hung = s.hung := by
  induction fuel generalizing s with
  | zero => rfl
  | succ k ih => unfold poll; dsimp only; split <;> simp [ih]
@[simp] theorem poll_result (fuel : Nat) (s : State) : (poll fuel s).2.result = s.result := by
  induction fuel generalizing s with
  | zero => rfl
  | succ k ih => unfold poll; dsimp only; split <;> simp [ih]
@[simp] theorem poll_refusals (fuel : Nat) (s : State) : (poll fuel s).2.refusals = s.refusals := by
  induction fuel generalizing s with
  | zero => rfl
  | succ k ih => unfold poll; dsimp only; split <;> simp [ih]
@[simp] theorem poll_inputs (fuel : Nat) (s : State) : (poll fuel s).2.inputs = s.inputs := by
  induction fuel generalizing s with
  | zero => rfl
  | succ k ih => unfold poll; dsimp only; split <;> simp [ih]
@[simp] theorem poll_free (fuel : Nat) (s : State) : (poll fuel s).2.free = s.free := by
  induction fuel generalizing s with
  | zero => rfl
  | succ k ih => unfold poll; dsimp only; split <;> simp [ih]
@[simp] theorem poll_cfg (fuel : Nat) (s : State) : (poll fuel s).2.ch.cfg = s.ch.cfg := by
  induction fuel generalizing s with
  | zero => rfl
  | succ k ih => unfold poll; dsimp only; split <;> simp [ih]
@[simp] theorem poll_tx (fuel : Nat) (s : State) : (poll fuel s).2.ch.tx = s.ch.tx := by
  induction fuel generalizing s with
  | zero => rfl
  | succ k ih => unfold poll; dsimp only; split <;> simp [ih]

/-- The poll counts its sleeps, at most its fuel (R22, R121). -/
theorem poll_pollcnt_le (fuel : Nat) (s : State) : (poll fuel s).2.pollcnt ≤ s.pollcnt + fuel := by
  induction fuel generalizing s with
  | zero => simp [poll]
  | succ k ih =>
    unfold poll; dsimp only
    split
    · simp
    · have := ih (pollSleep (chAvail s).2)
      simp at this
      omega

/-- What a poll records (R121): before the last asking every answer was below five and was followed by a sleep; it
succeeds exactly when the last answer is at least five; it fails only after `fuel` sleeps. -/
theorem poll_record (fuel : Nat) (s : State) :
    ∃ (answers : List Nat) (last : Nat),
      (poll fuel s).2.events = s.events ++
        (answers.flatMap fun a => [Event.avail a, .sleep Config.pollUs]) ++ [.avail last] ∧
      (∀ a ∈ answers, a < Config.hdrLen) ∧ answers.length ≤ fuel ∧
      (poll fuel s).2.pollcnt = s.pollcnt + answers.length ∧
      ((poll fuel s).1 = true ↔ Config.hdrLen ≤ last) ∧
      ((poll fuel s).1 = false → answers.length = fuel) := by
  induction fuel generalizing s with
  | zero => exact ⟨[], (chAvail s).1, by simp [poll], by simp, by simp, by simp [poll], by simp [poll], by simp⟩
  | succ k ih =>
    by_cases h : Config.hdrLen ≤ (chAvail s).1
    · exact ⟨[], (chAvail s).1, by simp [poll, h], by simp, by simp, by simp [poll, h], by simp [poll, h],
        by simp [poll, h]⟩
    · obtain ⟨answers, last, he, ha, hl, hp, hf, ht⟩ := ih (pollSleep (chAvail s).2)
      refine ⟨(chAvail s).1 :: answers, last, ?_, ?_, ?_, ?_, ?_, ?_⟩
      · unfold poll; simp [h, he]
      · intro a hm
        rcases List.mem_cons.mp hm with rfl | hm
        · omega
        · exact ha a hm
      · simp; omega
      · unfold poll; simp [h, hp]; omega
      · unfold poll; simp only [h, if_false]; exact hf
      · unfold poll; simp only [h, if_false]; intro hh; simp [ht hh]

end Sys2Proof.Machine
end

