-- ==== Sys2Proof/Laws/Receive.lean ====
section
/-! SUPPORT. DECODE and RECEIVE, stage by stage: every way each stage can end (spec/40_codec.md R95 to R103,
spec/41_engine.md R119 to R126), and what none of them touches. -/

namespace Sys2Proof.Machine

theorem stuck_iff (s : State) : s.stuck = true ↔ s.hung ≠ none := by
  cases h : s.hung <;> simp [State.stuck, h]

theorem not_stuck {s : State} (h : s.hung = none) : s.stuck = false := by simp [State.stuck, h]

theorem fetched_one (s : State) : fetched 1 s = [] ∨ ∃ c, fetched 1 s = [c] := by
  have h := fetched_length_le 1 s
  match hb : fetched 1 s with
  | [] => exact .inl rfl
  | [c] => exact .inr ⟨c, rfl⟩
  | _ :: _ :: _ => simp [hb] at h

/-- Stage (d), second part, and check (e) (R101, R102). -/
theorem checksumStage_cases (s : State) (h : s.hung = none) :
    (fetched 1 s = [] ∧ s.params.rxByteMode = .rawUnbounded ∧ checksumStage s = stuckRead 1 s) ∨
    (fetched 1 s = [] ∧ s.params.rxByteMode ≠ .rawUnbounded ∧
      checksumStage s = setStatus Flag.comTimeout (afterRead 1 s)) ∨
    (∃ c, fetched 1 s = [c] ∧ checksumStage s = checkChecksum (setCksum c (afterRead 1 s))) := by
  rcases readAndTap_cases 1 s with ⟨hl, e⟩ | ⟨hl, hm, e⟩
  · have hs : (afterRead 1 s).stuck = false := not_stuck h
    rcases fetched_one s with hb | ⟨c, hb⟩
    · refine .inr (.inl ⟨hb, ?_, ?_⟩)
      · simpa [hb] using hl
      · unfold checksumStage; simp only [e, hs, hb]; rfl
    · refine .inr (.inr ⟨c, hb, ?_⟩)
      unfold checksumStage; simp only [e, hs, hb]; rfl
  · refine .inl ⟨?_, hm, ?_⟩
    · simpa using hl
    · unfold checksumStage; simp only [e]; rfl

/-- Stage (d), first part (R100). -/
theorem payloadStage_cases (s : State) (h : s.hung = none) :
    (s.expCnt = 0 ∧ payloadStage s = checksumStage s) ∨
    (s.expCnt ≠ 0 ∧ (fetched s.expCnt s).length < s.expCnt ∧ s.params.rxByteMode = .rawUnbounded ∧
      payloadStage s = stuckRead s.expCnt s) ∨
    (s.expCnt ≠ 0 ∧ (fetched s.expCnt s).length < s.expCnt ∧ s.params.rxByteMode ≠ .rawUnbounded ∧
      payloadStage s = setStatus Flag.comTimeout (setData (fetched s.expCnt s) (afterRead s.expCnt s))) ∨
    (s.expCnt ≠ 0 ∧ (fetched s.expCnt s).length = s.expCnt ∧
      payloadStage s = checksumStage (setData (fetched s.expCnt s) (afterRead s.expCnt s))) := by
  by_cases h0 : s.expCnt = 0
  · exact .inl ⟨h0, by unfold payloadStage; simp [h0]⟩
  · have hle := fetched_length_le s.expCnt s
    rcases readAndTap_cases s.expCnt s with ⟨hl, e⟩ | ⟨hl, hm, e⟩
    · have hs : (afterRead s.expCnt s).stuck = false := not_stuck h
      by_cases hlt : (fetched s.expCnt s).length < s.expCnt
      · refine .inr (.inr (.inl ⟨h0, hlt, ?_, ?_⟩))
        · rcases hl with hl | hl
          · omega
          · exact hl
        · unfold payloadStage; simp [e, hs, h0, hlt]
      · refine .inr (.inr (.inr ⟨h0, by omega, ?_⟩))
        unfold payloadStage; simp [e, hs, h0, hlt]
    · refine .inr (.inl ⟨h0, hl, hm, ?_⟩)
      unfold payloadStage; simp [e, h0]; intro hh; exact absurd hh (by simp [stuckRead, State.stuck])

/-- Checks (a), (b), (c) pass (R97, R98, R99). -/
def headerPasses (s : State) : Prop :=
  readBuf s.hdr 0 = Config.hdr0 ∧ readBuf s.hdr 1 = Config.hdr1 ∧ readBuf s.hdr 2 = s.expId ∧
    ((readBuf s.hdr 3).toNat : Int) - 2 = (s.expCnt : Int)

/-- DECODE: a header that fails a check ends it with `COM_ERROR`; otherwise the payload stage runs (R95 to R99). -/
theorem decodeResponse_cases (s : State) :
    (¬ headerPasses s ∧ decodeResponse s = setStatus Flag.comError (captureHeader s)) ∨
    (headerPasses s ∧ decodeResponse s = payloadStage (captureHeader s)) := by
  unfold headerPasses decodeResponse
  simp only [captureHeader_hdr, captureHeader_expId, captureHeader_expCnt]
  by_cases h0 : readBuf s.hdr 0 = Config.hdr0 <;> by_cases h1 : readBuf s.hdr 1 = Config.hdr1 <;>
    by_cases h2 : readBuf s.hdr 2 = s.expId <;>
    by_cases h3 : ((readBuf s.hdr 3).toNat : Int) - 2 = (s.expCnt : Int) <;> simp [h0, h1, h2, h3]

/-- The header read (R122), then DECODE (R123). -/
theorem headerStage_cases (s : State) (h : s.hung = none) :
    ((fetched 5 s).length < 5 ∧ s.params.rxByteMode = .rawUnbounded ∧ headerStage s = stuckRead 5 s) ∨
    ((fetched 5 s).length < 5 ∧ s.params.rxByteMode ≠ .rawUnbounded ∧
      headerStage s = setStatus Flag.comTimeout (afterRead 5 s)) ∨
    ((fetched 5 s).length = 5 ∧ headerStage s =
      decodeResponse { afterRead 5 s with hdr := overwrite s.hdr (fetched 5 s) }) := by
  have hle := fetched_length_le 5 s
  rcases readAndTap_cases 5 s with ⟨hl, e⟩ | ⟨hl, hm, e⟩
  · have hs : (afterRead 5 s).stuck = false := not_stuck h
    by_cases hlt : (fetched 5 s).length < 5
    · refine .inr (.inl ⟨hlt, ?_, ?_⟩)
      · rcases hl with hl | hl
        · omega
        · exact hl
      · unfold headerStage; simp [e, hs, hlt]
    · refine .inr (.inr ⟨by omega, ?_⟩)
      unfold headerStage; simp [e, hs, hlt]; rfl
  · refine .inl ⟨hl, hm, ?_⟩
    unfold headerStage; simp [e]; intro hh; exact absurd hh (by simp [stuckRead, State.stuck])

/-- RECEIVE (R119): skipped for a broadcast; else the poll fails, or the header stage runs on its state. -/
theorem receiveBody_cases (n : Nat) (s : State) :
    (s.desc.id = Config.idBroadcast ∧ receiveBody n s = setStatus Flag.ok s) ∨
    (s.desc.id ≠ Config.idBroadcast ∧ (poll Config.pollMax (latchReceive n s)).1 = false ∧
      receiveBody n s = setStatus Flag.comTimeout (poll Config.pollMax (latchReceive n s)).2) ∨
    (s.desc.id ≠ Config.idBroadcast ∧ (poll Config.pollMax (latchReceive n s)).1 = true ∧
      receiveBody n s = headerStage (poll Config.pollMax (latchReceive n s)).2) := by
  unfold receiveBody
  by_cases h : s.desc.id = Config.idBroadcast
  · simp [h]
  · cases hp : (poll Config.pollMax (latchReceive n s)).1 <;> simp [h, hp]

/-- What RECEIVE and its stages leave alone: everything but the descriptor, `HDR`, the latches, the channel's streams,
the history, the script, and whether the engine is stuck. -/
structure ReceiveFrame (s t : State) : Prop where
  busEn : t.busEn = s.busEn
  dir : t.dir = s.dir
  savedCfg : t.savedCfg = s.savedCfg
  savedValid : t.savedValid = s.savedValid
  tapFn : t.tapFn = s.tapFn
  tapCtx : t.tapCtx = s.tapCtx
  tapValid : t.tapValid = s.tapValid
  cfg : t.ch.cfg = s.ch.cfg
  tx : t.ch.tx = s.ch.tx
  params : t.params = s.params
  result : t.result = s.result
  refusals : t.refusals = s.refusals
  inputs : t.inputs = s.inputs
  free : t.free = s.free
  idlist : t.desc.idlist = s.desc.idlist

theorem ReceiveFrame.refl (s : State) : ReceiveFrame s s := by constructor <;> rfl

theorem ReceiveFrame.trans {s t u : State} (h : ReceiveFrame s t) (k : ReceiveFrame t u) : ReceiveFrame s u := by
  cases h; cases k; constructor <;> simp_all

theorem checksumStage_frame (s : State) (h : s.hung = none) : ReceiveFrame s (checksumStage s) := by
  rcases checksumStage_cases s h with ⟨_, _, e⟩ | ⟨_, _, e⟩ | ⟨c, _, e⟩ <;> rw [e] <;> constructor <;> rfl

theorem payloadStage_frame (s : State) (h : s.hung = none) : ReceiveFrame s (payloadStage s) := by
  rcases payloadStage_cases s h with ⟨_, e⟩ | ⟨_, _, _, e⟩ | ⟨_, _, _, e⟩ | ⟨_, _, e⟩ <;> rw [e]
  · exact checksumStage_frame s h
  · constructor <;> rfl
  · constructor <;> rfl
  · exact ReceiveFrame.trans (by constructor <;> rfl)
      (checksumStage_frame (setData (fetched s.expCnt s) (afterRead s.expCnt s)) h)

theorem decodeResponse_frame (s : State) (h : s.hung = none) : ReceiveFrame s (decodeResponse s) := by
  rcases decodeResponse_cases s with ⟨_, e⟩ | ⟨_, e⟩ <;> rw [e]
  · constructor <;> rfl
  · exact ReceiveFrame.trans (by constructor <;> rfl) (payloadStage_frame (captureHeader s) h)

theorem headerStage_frame (s : State) (h : s.hung = none) : ReceiveFrame s (headerStage s) := by
  rcases headerStage_cases s h with ⟨_, _, e⟩ | ⟨_, _, e⟩ | ⟨_, e⟩ <;> rw [e]
  · constructor <;> rfl
  · constructor <;> rfl
  · exact ReceiveFrame.trans (by constructor <;> rfl)
      (decodeResponse_frame { afterRead 5 s with hdr := overwrite s.hdr (fetched 5 s) } h)

theorem poll_frame (fuel : Nat) (s : State) : ReceiveFrame s (poll fuel s).2 := by
  constructor <;> simp

theorem receiveBody_frame (n : Nat) (s : State) (h : s.hung = none) : ReceiveFrame s (receiveBody n s) := by
  rcases receiveBody_cases n s with ⟨_, e⟩ | ⟨_, _, e⟩ | ⟨_, _, e⟩ <;> rw [e]
  · constructor <;> rfl
  · constructor <;> simp
  · exact ReceiveFrame.trans (by constructor <;> simp)
      (headerStage_frame (poll Config.pollMax (latchReceive n s)).2 (by simp [h]))

/-- The latches of a stage: `PHASE`, `POLLCNT`, `EXPID`, `EXPCNT` are not written after the poll (R21 to R23). -/
theorem headerStage_latches (s : State) (h : s.hung = none) :
    (headerStage s).phase = s.phase ∧ (headerStage s).pollcnt = s.pollcnt ∧ (headerStage s).expId = s.expId ∧
      (headerStage s).expCnt = s.expCnt := by
  have hc : ∀ u : State, u.hung = none → (checksumStage u).phase = u.phase ∧ (checksumStage u).pollcnt = u.pollcnt ∧
      (checksumStage u).expId = u.expId ∧ (checksumStage u).expCnt = u.expCnt := by
    intro u hu
    rcases checksumStage_cases u hu with ⟨_, _, e⟩ | ⟨_, _, e⟩ | ⟨c, _, e⟩ <;> rw [e] <;> exact ⟨rfl, rfl, rfl, rfl⟩
  have hp : ∀ u : State, u.hung = none → (payloadStage u).phase = u.phase ∧ (payloadStage u).pollcnt = u.pollcnt ∧
      (payloadStage u).expId = u.expId ∧ (payloadStage u).expCnt = u.expCnt := by
    intro u hu
    rcases payloadStage_cases u hu with ⟨_, e⟩ | ⟨_, _, _, e⟩ | ⟨_, _, _, e⟩ | ⟨_, _, e⟩ <;> rw [e]
    · exact hc u hu
    · exact ⟨rfl, rfl, rfl, rfl⟩
    · exact ⟨rfl, rfl, rfl, rfl⟩
    · exact hc (setData (fetched u.expCnt u) (afterRead u.expCnt u)) hu
  have hd : ∀ u : State, u.hung = none → (decodeResponse u).phase = u.phase ∧
      (decodeResponse u).pollcnt = u.pollcnt ∧ (decodeResponse u).expId = u.expId ∧
      (decodeResponse u).expCnt = u.expCnt := by
    intro u hu
    rcases decodeResponse_cases u with ⟨_, e⟩ | ⟨_, e⟩ <;> rw [e]
    · exact ⟨rfl, rfl, rfl, rfl⟩
    · exact hp (captureHeader u) hu
  rcases headerStage_cases s h with ⟨_, _, e⟩ | ⟨_, _, e⟩ | ⟨_, e⟩ <;> rw [e]
  · exact ⟨rfl, rfl, rfl, rfl⟩
  · exact ⟨rfl, rfl, rfl, rfl⟩
  · exact hd { afterRead 5 s with hdr := overwrite s.hdr (fetched 5 s) } h

end Sys2Proof.Machine
end

