-- ==== Sys2Proof/Laws/Engine.lean ====
section
/-! SUPPORT. The bodies of SEND, BEGIN, END, TRANSACT: every way each can end (spec/41_engine.md R112 to R129), and the
admission of a command (R111). -/

namespace Sys2Proof.Machine

/-- A command that answers a next state was admitted: no command was running and the phase accepts it (R111, R131). -/
theorem acceptIn_next {phases : List Phase} {s t : State} {run : Host.Outcome State Fault Refusal}
    (h : acceptIn phases s run = .next t) : s.hung = none ∧ s.phase ∈ phases ∧ run = .next t := by
  unfold acceptIn at h
  split at h
  · cases h
  · rename_i hs
    split at h
    · exact ⟨by simpa [State.stuck] using hs, by assumption, h⟩
    · cases h

/-- An admitted command runs. -/
theorem acceptIn_of {phases : List Phase} {s : State} (run : Host.Outcome State Fault Refusal)
    (hh : s.hung = none) (hp : s.phase ∈ phases) : acceptIn phases s run = run := by
  simp [acceptIn, not_stuck hh, hp]

theorem mem_anyPhase (p : Phase) : p ∈ anyPhase := by cases p <;> decide

theorem require_next {c : Bool} {why : Refusal} {run : Host.Outcome State Fault Refusal} {t : State}
    (h : require c why run = .next t) : c = true ∧ run = .next t := by
  unfold require at h
  split at h
  · exact ⟨by assumption, h⟩
  · cases h

@[simp] theorem require_true (why : Refusal) (run : Host.Outcome State Fault Refusal) :
    require true why run = run := rfl

@[simp] theorem require_false (why : Refusal) (run : Host.Outcome State Fault Refusal) :
    require false why run = .refused why := rfl

/-- The environment's `k`-th coming move. -/
def moveAt (s : State) (k : Nat) : EnvMove := s.env.getD k {}

theorem nextMove_moveAt (s : State) : nextMove s = moveAt s 0 := nextMove_eq s

@[simp] theorem moveAt_tail (l : List EnvMove) (k : Nat) : l.tail.getD k {} = l.getD (k + 1) {} := by
  cases l <;> simp

/-- SEND on a channel that drains (R116). -/
theorem sendBody_returns (s : State) (hh : s.hung = none) (h : (moveAt s 1).flushReturns = true) :
    sendBody s = { s with
      phase := .sending, dir := !s.params.dirTxLevel
      desc := { s.desc with cksum := s.desc.checksum }
      ch := { cfg := s.ch.cfg, rx := s.ch.rx ++ (moveAt s 0).arrive ++ (moveAt s 1).arrive, tx := [] }
      env := s.env.tail.tail
      events := s.events ++ [.dir s.params.dirTxLevel, .tx s.desc.packet, .flush, .dir (!s.params.dirTxLevel)] } := by
  have h' : (nextMove (chWrite s.desc.packet (writeChecksum (dirSet s.params.dirTxLevel
      { s with phase := .sending })))).flushReturns = true := by
    rw [nextMove_eq]; simpa [moveAt] using h
  unfold sendBody
  simp only [chFlush_returns _ h']
  simp [releaseLine, State.stuck, hh, dirSet, emit, moveAt, nextMove_eq]

/-- SEND on a channel that never drains (R208). -/
theorem sendBody_never (s : State) (h : (moveAt s 1).flushReturns = false) :
    sendBody s = { s with
      phase := .sending, dir := s.params.dirTxLevel, hung := some .flush
      desc := { s.desc with cksum := s.desc.checksum }
      ch := { cfg := s.ch.cfg, rx := s.ch.rx ++ (moveAt s 0).arrive ++ (moveAt s 1).arrive
              tx := s.ch.tx ++ s.desc.packet }
      env := s.env.tail.tail
      events := s.events ++ [.dir s.params.dirTxLevel, .tx s.desc.packet] } := by
  have h' : (nextMove (chWrite s.desc.packet (writeChecksum (dirSet s.params.dirTxLevel
      { s with phase := .sending })))).flushReturns = false := by
    rw [nextMove_eq]; simpa [moveAt] using h
  unfold sendBody
  simp only [chFlush_never _ h']
  simp [releaseLine, State.stuck, moveAt, nextMove_eq]

/-- BEGIN on a disabled bus (R113). -/
theorem beginBody_disabled (s : State) (h : s.busEn = false) : beginBody s = (Flag.fail, s) := by
  simp [beginBody, h]

/-- BEGIN whose `PROTO_CFG` is applied (R112). -/
theorem beginBody_applied (s : State) (hb : s.busEn = true) (h : (moveAt s 2).configureOk = true) :
    beginBody s = (Flag.ok, { s with
      phase := .reserved, savedCfg := s.ch.cfg, savedValid := true
      ch := { cfg := Config.protoCfg s.params, rx := (moveAt s 1).arrive ++ (moveAt s 2).arrive, tx := s.ch.tx }
      env := s.env.tail.tail.tail
      events := s.events ++ [.drain, .cfgGet s.ch.cfg, .cfgSet (Config.protoCfg s.params) true] }) := by
  have h' : (nextMove { (chGetConfig (chDrain s)).2 with
      savedCfg := (chGetConfig (chDrain s)).1, savedValid := true }).configureOk = true := by
    rw [nextMove_eq]; simpa [moveAt] using h
  unfold beginBody
  simp only [hb, if_true, chConfigure_fst, h', chConfigure_ok _ _ h']
  simp [moveAt, nextMove_eq, hb]

/-- BEGIN whose `PROTO_CFG` is not applied (R114): the state after the failed call, restored. -/
theorem beginBody_failed (s : State) (hb : s.busEn = true) (h : (moveAt s 2).configureOk = false) :
    beginBody s = (Flag.comInternal, { s with
      savedCfg := s.ch.cfg, savedValid := false
      ch := { cfg := if (moveAt s 3).configureOk then s.ch.cfg else Config.cfgAfterFailedConfigure (s.free + 1)
              rx := (moveAt s 1).arrive ++ (moveAt s 2).arrive ++ (moveAt s 3).arrive, tx := s.ch.tx }
      env := s.env.tail.tail.tail.tail
      free := if (moveAt s 3).configureOk then s.free + 1 else s.free + 2
      events := s.events ++ [.drain, .cfgGet s.ch.cfg, .cfgSet (Config.protoCfg s.params) false,
        .cfgSet s.ch.cfg (moveAt s 3).configureOk] }) := by
  have h' : (nextMove { (chGetConfig (chDrain s)).2 with
      savedCfg := (chGetConfig (chDrain s)).1, savedValid := true }).configureOk = false := by
    rw [nextMove_eq]; simpa [moveAt] using h
  unfold beginBody
  simp only [hb, if_true, chConfigure_fst, h', chConfigure_failed _ _ h']
  unfold chConfigure
  cases h3 : (moveAt s 3).configureOk <;> simp [moveAt] at h3 <;> simp [moveAt, nextMove_eq, h3, emit, hb]

/-- END with a saved configuration that is applied (R127). -/
theorem endBody_restored (s : State) (hv : s.savedValid = true) (h : (moveAt s 0).configureOk = true) :
    endBody s = { s with
      savedValid := false, phase := .idle
      ch := { cfg := s.savedCfg, rx := s.ch.rx ++ (moveAt s 0).arrive, tx := s.ch.tx }
      env := s.env.tail, events := s.events ++ [.cfgSet s.savedCfg true] } := by
  have h' : (nextMove s).configureOk = true := by rw [nextMove_eq]; exact h
  simp [endBody, hv, chConfigure_ok _ _ h', nextMove_moveAt]

/-- END with a saved configuration that is not applied (R160). -/
theorem endBody_unrestored (s : State) (hv : s.savedValid = true) (h : (moveAt s 0).configureOk = false) :
    endBody s = { s with
      savedValid := false, phase := .idle
      ch := { cfg := Config.cfgAfterFailedConfigure s.free, rx := s.ch.rx ++ (moveAt s 0).arrive, tx := s.ch.tx }
      free := s.free + 1
      env := s.env.tail, events := s.events ++ [.cfgSet s.savedCfg false] } := by
  have h' : (nextMove s).configureOk = false := by rw [nextMove_eq]; exact h
  simp [endBody, hv, chConfigure_failed _ _ h', nextMove_moveAt]

/-- END with nothing saved (R127). -/
theorem endBody_nothing (s : State) (hv : s.savedValid = false) : endBody s = { s with phase := .idle } := by
  simp [endBody, hv]

/-- TRANSACT's early exit (R129). -/
theorem transactBody_exit (n : Nat) (s : State) (h : (beginBody s).1 ≠ Flag.ok) :
    transactBody n s = setStatus (beginBody s).1 (beginBody s).2 := by
  simp [transactBody, h]

/-- TRANSACT in sequence (R129). -/
theorem transactBody_sequence (n : Nat) (s : State) (hb : (beginBody s).1 = Flag.ok)
    (hs : (sendBody (beginBody s).2).hung = none)
    (hr : (receiveBody n (sendBody (beginBody s).2)).hung = none) :
    transactBody n s = endBody (receiveBody n (sendBody (beginBody s).2)) := by
  simp [transactBody, hb, not_stuck hs, not_stuck hr]

end Sys2Proof.Machine
end

