-- ==== Sys2Proof/Laws/PerInstr.lean ====
section
/-! SUPPORT. Statements about an instruction as syntax, made per constructor: the encoding of a well-formed instruction
is not empty and is no longer than the longest packet with its tag (spec/30_encoding.md R64, R68; log 1, log 2). -/

namespace Sys2Proof.Laws.EncodeBound

/-- A well-formed instruction takes 1 to `maxInstrBytes` bytes. -/
def Statement (i : Instr) : Prop :=
  i.wellFormed = true → 1 ≤ (encode i).length ∧ (encode i).length ≤ maxInstrBytes

/-- The groups of a sync write take `size + 1` bytes each (R66). -/
theorem groupBytes_length (size : Nat) (groups : List (Byte × List Byte))
    (h : groups.all (fun g => g.2.length == size) = true) :
    (groupBytes groups).length = groups.length * (size + 1) := by
  induction groups with
  | nil => simp [groupBytes]
  | cons g gs ih =>
    simp only [List.all_cons, Bool.and_eq_true, beq_iff_eq] at h
    have e := ih h.2
    simp only [groupBytes] at e ⊢
    simp only [List.flatMap_cons, List.length_append, List.length_cons, e, h.1, Nat.succ_mul]
    omega

theorem beginTxn : Statement .beginTxn := fun _ => by decide
theorem send : Statement .send := fun _ => by decide
theorem receive (n : Nat) : Statement (.receive n) := fun _ => by simp [Sys2Proof.encode, maxInstrBytes]
theorem endTxn : Statement .endTxn := fun _ => by decide
theorem transact (n : Nat) : Statement (.transact n) := fun _ => by simp [Sys2Proof.encode, maxInstrBytes]
theorem setTap (fn : TapFn) (ctx : TapCtx) : Statement (.setTap fn ctx) := fun _ => by
  simp [Sys2Proof.encode, le32, maxInstrBytes]
theorem checksum : Statement .checksum := fun _ => by decide
theorem encode : Statement .encode := fun _ => by decide
theorem decode (hdr : Vector Byte Config.hdrLen) (id : Byte) (n : Nat) : Statement (.decode hdr id n) := fun _ => by
  simp [Sys2Proof.encode, maxInstrBytes, Config.hdrLen]
theorem reserved0 : Statement .reserved0 := fun _ => by decide
theorem reservedA : Statement .reservedA := fun _ => by decide
theorem reservedB : Statement .reservedB := fun _ => by decide
theorem reservedC : Statement .reservedC := fun _ => by decide
theorem reservedD : Statement .reservedD := fun _ => by decide
theorem reservedE : Statement .reservedE := fun _ => by decide
theorem reservedF : Statement .reservedF := fun _ => by decide

theorem reqPlain (id len instr : Byte) (data : List Byte) (cksum : Byte) :
    Statement (.reqPlain id len instr data cksum) := fun h => by
  have := len.isLt
  simp only [Instr.wellFormed, Bool.and_eq_true, beq_iff_eq] at h
  simp only [Sys2Proof.encode, packetBytes, maxInstrBytes, List.length_cons, List.length_append, List.length_nil]
  omega

theorem reqAddr (id len instr addr : Byte) (data : List Byte) (cksum : Byte) :
    Statement (.reqAddr id len instr addr data cksum) := fun h => by
  have := len.isLt
  simp only [Instr.wellFormed, Bool.and_eq_true, beq_iff_eq] at h
  simp only [Sys2Proof.encode, packetBytes, maxInstrBytes, List.length_cons, List.length_append, List.length_nil]
  omega

theorem reqPcnt (id len instr pcnt : Byte) (data : List Byte) (cksum : Byte) :
    Statement (.reqPcnt id len instr pcnt data cksum) := fun h => by
  have := len.isLt
  simp only [Instr.wellFormed, Bool.and_eq_true, beq_iff_eq] at h
  simp only [Sys2Proof.encode, packetBytes, maxInstrBytes, List.length_cons, List.length_append, List.length_nil]
  omega

theorem reqAddrPcnt (id len instr addr pcnt : Byte) (data : List Byte) (cksum : Byte) :
    Statement (.reqAddrPcnt id len instr addr pcnt data cksum) := fun h => by
  have := len.isLt
  simp only [Instr.wellFormed, Bool.and_eq_true, beq_iff_eq] at h
  simp only [Sys2Proof.encode, packetBytes, maxInstrBytes, List.length_cons, List.length_append, List.length_nil]
  omega

theorem reqSync (id len instr : Byte) (addr : Option Byte) (pcnt : Byte) (groups : List (Byte × List Byte))
    (cksum : Byte) : Statement (.reqSync id len instr addr pcnt groups cksum) := fun h => by
  have := len.isLt
  simp only [Instr.wellFormed, Bool.and_eq_true, beq_iff_eq] at h
  have hg := groupBytes_length _ _ h.2
  cases addr <;>
    simp only [Sys2Proof.encode, packetBytes, maxInstrBytes, List.length_cons, List.length_append, List.length_nil, hg]
      at h ⊢ <;>
    simp only [Option.toList, List.length_cons, List.length_nil] at h <;>
    omega

theorem resp (id len status : Byte) (params : List Byte) (cksum : Byte) :
    Statement (.resp id len status params cksum) := fun h => by
  have := len.isLt
  simp only [Instr.wellFormed, beq_iff_eq] at h
  simp only [Sys2Proof.encode, packetBytes, maxInstrBytes, List.length_cons, List.length_append, List.length_nil]
  omega

end Sys2Proof.Laws.EncodeBound
end

