-- ==== Sys2Proof/Tests/Slice0.lean ====
section
/-! SUPPORT. Tests. Expected values are those of spec/95_test_vectors.md (the vector's name stands in the comment) or are
written out from the encoding tables of spec/30_encoding.md; the `witness_` theorems show, for each statement of
Certificates/Slice0/Obligations.lean that has hypotheses, states and operands that meet them. -/

namespace Sys2Proof.Tests

open Sys2Proof.Machine

/-! ## Small states -/

/-- A platform whose transmit level is high. -/
def platform : Params :=
  { dirTxLevel := true, baud := 1000000, stopBits := 1, linger := 0, protoRest := 0, tStage := 0, tSettle := 0
    rxByteMode := .generic }

/-- The configuration `c0` of the vectors. -/
def c0 : Settings := ⟨7, .other 1, 9600, 2, 3, 4⟩

/-- `P`, the protocol's configuration on that platform. -/
def cP : Settings := Config.protoCfg platform

/-- A descriptor in the notation of R73. -/
def request (id len instr addr pcnt : Byte) (idlist data : List Byte) : Desc :=
  { id := id, len := len, instr := instr, addr := addr, pcnt := pcnt
    data := overwrite (Vector.replicate _ 0) data, idlist := overwrite (Vector.replicate _ 0) idlist
    idn := BitVec.ofNat 8 idlist.length, cksum := 0x77, status := 0xA0 }

/-- V-E1. -/
def ping : Desc := request 1 2 0x01 255 255 [] []
/-- V-E6, scenario A, with the marker bytes of part 2.3 in `DATA`. -/
def readReq : Desc := request 1 4 0x02 0x24 2 [] [0x77, 0x78]
/-- V-E7. -/
def syncReq : Desc := request 0xFE 0x0A 0x83 0x1E 2 [1, 2] [0, 2, 0, 1]

/-- A state with no command running. -/
def machine (p : Phase) (d : Desc) (rx : List Byte) (env : List EnvMove) : State :=
  { desc := d, phase := p, pollcnt := 0, expId := 0, expCnt := 0, hdr := Vector.replicate _ 0, busEn := true
    dir := false, savedCfg := c0, savedValid := p != .idle, tapFn := .empty, tapCtx := ⟨0⟩, tapValid := false
    ch := ⟨if p = .idle then c0 else cP, rx, []⟩, params := platform, hung := none, result := .none, events := []
    refusals := [], inputs := [], env := env, free := 0 }

/-- The same machine with a subscriber `(f, c)`. -/
def tapped (s : State) : State := { s with tapFn := .handle 7, tapCtx := ⟨9⟩, tapValid := true }

/-- The same machine on a platform of the given `RX_BYTE_MODE`. -/
def inMode (m : RxByteMode) (s : State) : State := { s with params := { s.params with rxByteMode := m } }

/-- The next state, where there is one. -/
def next? : Host.Outcome State Fault Refusal → Option State
  | .next t => some t
  | _ => none

/-- The next state, or the one given. -/
def nextOr (s : State) (o : Host.Outcome State Fault Refusal) : State := (next? o).getD s

/-- The refusal, where there is one. -/
def refusal? : Host.Outcome State Fault Refusal → Option Refusal
  | .refused r => some r
  | _ => none

/-! ## Well-formedness refuses each ill-formed term -/

theorem test_wf_count : (Instr.receive 254).wellFormed = false ∧ (Instr.transact 254).wellFormed = false ∧
    (Instr.decode #v[0, 0, 0, 0, 0] 0 254).wellFormed = false ∧ (Instr.receive 253).wellFormed = true := by decide
theorem test_wf_handle : (Instr.setTap (.handle 4294967295) ⟨0⟩).wellFormed = false ∧
    (Instr.setTap .empty ⟨4294967296⟩).wellFormed = false ∧
    (Instr.setTap (.handle 4294967294) ⟨4294967295⟩).wellFormed = true := by decide
theorem test_wf_request_id : (Instr.reqPlain 255 2 1 [] 0).wellFormed = false ∧
    (Instr.reqPlain 254 2 1 [] 0).wellFormed = true := by decide
theorem test_wf_length : (Instr.reqPlain 1 3 1 [] 0).wellFormed = false ∧
    (Instr.reqAddr 1 2 1 0 [] 0).wellFormed = false ∧ (Instr.reqPcnt 1 2 1 0 [] 0).wellFormed = false ∧
    (Instr.reqAddrPcnt 1 3 1 0 0 [] 0).wellFormed = false ∧ (Instr.resp 1 4 0 [] 0).wellFormed = false := by decide
theorem test_wf_sentinel : (Instr.reqAddr 1 3 1 255 [] 0).wellFormed = false ∧
    (Instr.reqPcnt 1 3 1 255 [] 0).wellFormed = false ∧ (Instr.reqAddrPcnt 1 4 1 255 0 [] 0).wellFormed = false ∧
    (Instr.reqAddrPcnt 1 4 1 0 255 [] 0).wellFormed = false ∧
    (Instr.reqSync 254 4 1 (some 255) 0 [(1, [])] 0).wellFormed = false := by decide
theorem test_wf_sync : (Instr.reqSync 1 4 1 none 0 [(1, [])] 0).wellFormed = false ∧
    (Instr.reqSync 254 3 1 none 0 [] 0).wellFormed = false ∧
    (Instr.reqSync 254 5 1 none 1 [(1, [])] 0).wellFormed = false ∧
    (Instr.reqSync 254 6 1 none 1 [(1, [2])] 0).wellFormed = false ∧
    (Instr.reqSync 254 5 1 none 1 [(1, [2])] 0).wellFormed = true := by decide

/-! ## Words written out from the encoding tables (R69, R60 to R66) -/

/-- The instruction at the front of the bytes. -/
def decoded (bs : List Byte) : Option Instr :=
  match decode bs with
  | .ok (i, _) => some i
  | .error _ => none

theorem test_decode_begin : decoded [0b00000001] = some .beginTxn := by decide
theorem test_decode_send : decoded [0b00000010] = some .send := by decide
theorem test_decode_receive : decoded [0b00000011, 0b00000010] = some (.receive 2) := by decide
theorem test_decode_end : decoded [0b00000100] = some .endTxn := by decide
theorem test_decode_transact : decoded [0b00000101, 0b11111101] = some (.transact 253) := by decide
theorem test_decode_settap : decoded [0b00000110, 8, 0, 0, 0, 9, 1, 0, 0] = some (.setTap (.handle 7) ⟨265⟩) := by
  decide
theorem test_decode_settap_empty : decoded [0b00000110, 0, 0, 0, 0, 9, 0, 0, 0] = some (.setTap .empty ⟨9⟩) := by
  decide
theorem test_decode_checksum : decoded [0b00000111] = some .checksum := by decide
theorem test_decode_encode : decoded [0b00001000] = some .encode := by decide
theorem test_decode_decode : decoded [0b00001001, 0xFF, 0xFF, 1, 2, 0, 1, 0] =
    some (.decode #v[0xFF, 0xFF, 1, 2, 0] 1 0) := by decide
theorem test_decode_reserved : [0b00000000, 0b00001010, 0b00001011, 0b00001100, 0b00001101, 0b00001110,
    0b00001111].map (fun b => decoded [b]) = [some .reserved0, some .reservedA, some .reservedB, some .reservedC,
    some .reservedD, some .reservedE, some .reservedF] := by decide
/-- V-E1, V-E3, V-E5, V-E6, V-E8 and the response of scenario A, as bytes of the line. -/
theorem test_decode_req_plain : decoded [0x10, 0xFF, 0xFF, 0x01, 0x02, 0x01, 0xFB] =
    some (.reqPlain 1 2 0x01 [] 0xFB) := by decide
theorem test_decode_req_addr : decoded [0x11, 0xFF, 0xFF, 0x05, 0x04, 0x03, 0x19, 0x01, 0xD9] =
    some (.reqAddr 5 4 0x03 0x19 [0x01] 0xD9) := by decide
theorem test_decode_req_pcnt : decoded [0x12, 0xFF, 0xFF, 0x07, 0x03, 0x55, 0x09, 0x97] =
    some (.reqPcnt 7 3 0x55 9 [] 0x97) := by decide
theorem test_decode_req_addr_pcnt : decoded [0x13, 0xFF, 0xFF, 0x01, 0x04, 0x02, 0x24, 0x02, 0xD2] =
    some (.reqAddrPcnt 1 4 0x02 0x24 2 [] 0xD2) := by decide
theorem test_decode_req_sync_addr : decoded
    [0x15, 0xFF, 0xFF, 0xFE, 0x0A, 0x83, 0x1E, 0x02, 0x01, 0x00, 0x02, 0x02, 0x00, 0x01, 0x4E] =
    some (.reqSync 0xFE 10 0x83 (some 0x1E) 2 [(1, [0, 2]), (2, [0, 1])] 0x4E) := by decide
theorem test_decode_req_sync : decoded [0x14, 0xFF, 0xFF, 0xFE, 0x05, 0x83, 0x01, 0x07, 0x55, 0x00] =
    some (.reqSync 0xFE 5 0x83 none 1 [(7, [0x55])] 0) := by decide
theorem test_decode_resp : decoded [0xFF, 0xFF, 0x01, 0x04, 0x00, 0x12, 0x00, 0xE8] =
    some (.resp 1 4 0 [0x12, 0x00] 0xE8) := by decide
theorem test_decode_refuses : decode [] = .error .truncated ∧ decode [0x16] = .error .noSuchCode ∧
    decode [0xFF, 0x00, 1, 2, 0, 0] = .error .noHeader ∧ decode [0x10, 0xFF, 0xFF, 1, 1, 1, 0] = .error .badLength ∧
    decode [0x11, 0xFF, 0xFF, 1, 3, 1, 0xFF, 0] = .error .sentinel ∧
    decode [0x10, 0xFF, 0xFF, 0xFF, 2, 1, 0] = .error .badId := by decide
/-- A word of a wire row of the table, first byte most significant. -/
theorem test_table_word_resp : decodeTableWord 40 0xFFFF000000 = some (.resp 0 0 0 [] 0) := by decide

/-! ## Checksum and packet -/

/-- V-C1 to V-C8. -/
theorem test_checksum : [ping, readReq, request 1 4 0 255 255 [] [0x12, 0], request 0xFA 2 3 255 255 [] [],
    request 0xFB 2 3 255 255 [] [], request 0xFD 5 3 0x1E 255 [] [0xFF, 3], syncReq,
    request 0xFE 6 0x83 0x20 1 [7] [0x55]].map Desc.checksum =
    [0xFB, 0xD2, 0xE8, 0x00, 0xFF, 0xDA, 0x4E, 0xFB] := by decide
/-- V-E7; V-E9 (the bytes of V-E6). -/
theorem test_encode : syncReq.packet = [0xFF, 0xFF, 0xFE, 0x0A, 0x83, 0x1E, 2, 1, 0, 2, 2, 0, 1, 0x4E] ∧
    (request 1 4 2 0x24 255 [] [2]).packet = readReq.packet ∧
    readReq.packet = [0xFF, 0xFF, 1, 4, 2, 0x24, 2, 0xD2] := by decide
/-- V-W1 to V-W7. -/
theorem test_wf : [request 255 2 1 255 255 [] [], request 1 1 1 255 255 [] [], request 1 3 2 0x24 2 [] [],
    request 1 7 0x83 0x1E 2 [1] [0, 2], request 0xFE 9 0x83 0x1E 2 [1, 2] [0, 2, 0, 1],
    request 0xFE 5 0x83 0x1E 255 [1] [0], request 1 4 2 255 255 [] []].map Desc.wf =
    [false, false, false, false, false, false, true] := by decide

/-! ## One step of each command -/

/-- What a test looks at. -/
def seen (s : State) : Phase × Byte × List Event := (s.phase, s.desc.status, s.events)

/-- V-B1. -/
theorem test_begin : (next? (exec .beginTxn (machine .idle ping [0x55, 0xAA] []))).map
    (fun t => (seen t, t.savedCfg, t.savedValid, t.ch, t.result)) =
    some ((.reserved, 0xA0, [.drain, .cfgGet c0, .cfgSet cP true]), c0, true, ⟨cP, [], []⟩, .status 0) := by decide
/-- V-B3. -/
theorem test_begin_config_fails : (next? (exec .beginTxn (machine .idle ping [0x55]
    [{}, {}, { configureOk := false }]))).map (fun t => (seen t, t.savedValid, t.ch, t.result)) =
    some ((.idle, 0xA0, [.drain, .cfgGet c0, .cfgSet cP false, .cfgSet c0 true]), false, ⟨c0, [], []⟩,
      .status 0x0C) := by decide
/-- V-S1. -/
theorem test_send : (next? (exec .send (machine .reserved readReq [] []))).map
    (fun t => (seen t, t.desc.cksum, t.dir, t.ch.tx)) =
    some ((.sending, 0xA0, [.dir true, .tx [0xFF, 0xFF, 1, 4, 2, 0x24, 2, 0xD2], .flush, .dir false]), 0xD2, false,
      []) := by decide
/-- V-S4, V-S5. -/
theorem test_send_refused : refusal? (exec .send (machine .reserved (request 255 2 1 255 255 [] []) [] [])) =
    some .notWellFormed ∧ refusal? (exec .send (machine .sending readReq [] [])) = some .wrongPhase := by decide
/-- V-P4's events, V-R2's descriptor; the statuses of V-R8, V-R9, V-R10, V-R11, V-R12, V-R13, V-D15, V-D6. -/
theorem test_receive : (next? (exec (.receive 2) (tapped (machine .sending readReq
    [0xFF, 0xFF, 1, 4, 0, 0x12, 0, 0xE8] [])))).map (fun t => (seen t, t.pollcnt, t.expId, t.expCnt, t.ch.rx)) =
    some ((.receiving, 0, [.avail 8, .rx 5 5 [0xFF, 0xFF, 1, 4, 0], .tap (.handle 7) ⟨9⟩ [0xFF, 0xFF, 1, 4, 0],
      .rx 2 2 [0x12, 0], .tap (.handle 7) ⟨9⟩ [0x12, 0], .rx 1 1 [0xE8], .tap (.handle 7) ⟨9⟩ [0xE8]]), 0, 1, 2,
      []) ∧
    (next? (exec (.receive 2) (machine .sending readReq [0xFF, 0xFF, 1, 4, 0, 0x12, 0, 0xE8] []))).map
      (fun t => t.hdr.toList ++ [t.desc.id, t.desc.len, t.desc.instr, t.desc.addr, t.desc.pcnt, t.desc.idn,
        t.desc.cksum] ++ t.desc.data.toList.take 3) =
    some [0xFF, 0xFF, 1, 4, 0, 1, 4, 0, 255, 255, 0, 0xE8, 0x12, 0, 0] ∧
    [([0, 0xFF, 0xFF, 1, 4, 0, 0x12, 0, 0xE8], 2),
    ([0xFF, 0xFF, 2, 4, 0, 0x12, 0, 0xE7], 2), ([0xFF, 0xFF, 1, 3, 0, 0x20, 0xDB], 2),
    ([0xFF, 0xFF, 1, 4, 0, 0x12], 2), ([0xFF, 0xFF, 1, 4, 0, 0x12, 0], 2),
    ([0xFF, 0xFF, 1, 4, 0, 0x12, 0, 0xE9], 2), ([0xFF, 0xFF, 1, 4, 0, 0x13, 0xFF, 0xE8], 2),
    ([0xFF, 0xFF, 1, 0, 0], 0)].map (fun x : List Byte × Nat =>
      (next? (exec (.receive x.2) (machine .sending readReq x.1 []))).map (·.desc.status)) =
    [some 4, some 4, some 4, some 5, some 5, some 2, some 0, some 4] := by decide
/-- V-R7, an oracle environment; V-R14, bytes that arrive during the read; V-R6 (scenario C) and V-R4, the counts of the
poll. -/
theorem test_receive_environment :
    (next? (exec (.receive 2) (machine .sending readReq [0xFF, 0xFF, 1] [{ avail := some 5 }]))).map seen =
      some (.receiving, 5, [.avail 5, .rx 5 3 [0xFF, 0xFF, 1]]) ∧
    (next? (exec (.receive 2) (machine .sending readReq [0xFF, 0xFF, 1, 4, 0]
      (replyMoves [(.duringRead, [0x12, 0, 0xE8])] 2 (machine .sending readReq [0xFF, 0xFF, 1, 4, 0] []))))).map seen =
      some (.receiving, 0, [.avail 5, .rx 5 5 [0xFF, 0xFF, 1, 4, 0], .rx 2 2 [0x12, 0], .rx 1 1 [0xE8]]) ∧
    (next? (exec (.receive 2) (machine .sending readReq [0xFF, 0xFF, 1] []))).map
      (fun t => (t.desc.status, t.pollcnt, t.ch.rx, t.events.countP Event.isAvail, t.events.countP Event.isSleep)) =
      some (5, 100, [0xFF, 0xFF, 1], 101, 100) ∧
    (next? (exec (.receive 2) (machine .sending readReq []
      (replyMoves [(.late 100 (by decide), [0xFF, 0xFF, 1, 4, 0, 0x12, 0, 0xE8])] 2 (machine .sending readReq [] []))))).map
      (fun t => (t.desc.status, t.pollcnt, t.events.countP Event.isAvail, t.events.countP Event.isSleep)) =
      some (0, 100, 101, 100) := by decide +kernel
/-- A receiver against a scripted device (R176). -/
def against (replies : List Reply) : State :=
  machine .sending readReq [] (replyMoves replies 2 (machine .sending readReq [] []))

/-- What such a receiver sees: `STATUS`, `POLLCNT`, the reads, and what is left of the stream and of the script. -/
def receives (replies : List Reply) : Byte × Nat × List Event × List Byte × Nat :=
  let t := nextOr (against replies) (exec (.receive 2) (against replies))
  (t.desc.status, t.pollcnt, t.events.filter Event.isRx, t.ch.rx, t.env.length)

/-- The reference environment (R176): a header late(2) with the rest while a read waits. -/
theorem test_reference_during_read :
    receives [(.late 2 (by decide), [0xFF, 0xFF, 1, 4, 0]), (.duringRead, [0x12, 0, 0xE8])] =
      (0, 2, [.rx 5 5 [0xFF, 0xFF, 1, 4, 0], .rx 2 2 [0x12, 0], .rx 1 1 [0xE8]], [], 0) := by decide +kernel
/-- The checksum alone while its read waits. -/
theorem test_reference_during_checksum :
    receives [(.late 2 (by decide), [0xFF, 0xFF, 1, 4, 0, 0x12, 0]), (.duringRead, [0xE8])] =
      (0, 2, [.rx 5 5 [0xFF, 0xFF, 1, 4, 0], .rx 2 2 [0x12, 0], .rx 1 1 [0xE8]], [], 0) := by decide +kernel
/-- A late reply after the poll has ended, which never comes. -/
theorem test_reference_too_late :
    receives [(.prompt, [0xFF, 0xFF, 1, 4, 0, 0x12, 0, 0xE8]), (.late 1 (by decide), [0x55])] =
      (0, 0, [.rx 5 5 [0xFF, 0xFF, 1, 4, 0], .rx 2 2 [0x12, 0], .rx 1 1 [0xE8]], [], 0) := by decide +kernel
/-- Bytes for a waiting read where no read waits. -/
theorem test_reference_nothing_waits :
    receives [(.prompt, [0xFF, 0xFF, 2, 4, 0, 0x12]), (.duringRead, [0x55])] =
      (4, 0, [.rx 5 5 [0xFF, 0xFF, 2, 4, 0]], [0x12], 0) := by decide +kernel
/-- Prompt replies to a broadcast are left in `ch.rx` (R212, U21; log 27); the events are those of program P2. -/
theorem test_reference_broadcast :
    (next? (exec (.transact 0) (machine .idle syncReq [9]
      (transactMoves (fun _ => [(.prompt, [0x55]), (.duringRead, [0x66])]) 0 (machine .idle syncReq [9] []))))).map
      (fun t => (t.ch, t.events.length, t.desc.status)) = some (⟨c0, [0x55], []⟩, 8, 0) := by decide +kernel
/-- After a RECEIVE that a broadcast id skipped (V-R1) the phase is SENDING, and R111 accepts RECEIVE and END (log 28). -/
theorem test_after_broadcast_receive : (next? (exec (.receive 0) (machine .sending syncReq [] []))).map
      (fun t => (t.phase, refusal? (exec (.receive 0) t), refusal? (exec .endTxn t), refusal? (exec .send t))) =
    some (.sending, none, none, some .wrongPhase) := by decide
/-- V-N1, V-N3. -/
theorem test_end : (next? (exec .endTxn (machine .receiving readReq [] []))).map (fun t => (seen t, t.ch.cfg)) =
      some ((.idle, 0xA0, [.cfgSet c0 true]), c0) ∧
    (next? (exec .endTxn (machine .idle readReq [] []))).map seen = some (.idle, 0xA0, []) := by decide
/-- Program P1: the stale byte is dropped, the whole transaction's events. -/
theorem test_transact : (next? (exec (.transact 2) (tapped (machine .idle readReq [0]
    (transactMoves (fun _ => [(.prompt, [0xFF, 0xFF, 1, 4, 0, 0x12, 0, 0xE8])]) 2 (machine .idle readReq [0] [])))))).map
      (fun t => (seen t, t.ch, t.desc.cksum, t.result)) =
    some ((.idle, 0, [.drain, .cfgGet c0, .cfgSet cP true, .dir true, .tx [0xFF, 0xFF, 1, 4, 2, 0x24, 2, 0xD2], .flush,
      .dir false, .avail 8, .rx 5 5 [0xFF, 0xFF, 1, 4, 0], .tap (.handle 7) ⟨9⟩ [0xFF, 0xFF, 1, 4, 0],
      .rx 2 2 [0x12, 0], .tap (.handle 7) ⟨9⟩ [0x12, 0], .rx 1 1 [0xE8], .tap (.handle 7) ⟨9⟩ [0xE8],
      .cfgSet c0 true]), ⟨c0, [], []⟩, 0xE8, .status 0) := by decide
/-- Programs P2, P3, P4: the status and the events. -/
theorem test_transact_short :
    (next? (exec (.transact 0) (machine .idle syncReq [] []))).map seen = some (.idle, 0, [.drain, .cfgGet c0,
      .cfgSet cP true, .dir true, .tx [0xFF, 0xFF, 0xFE, 0x0A, 0x83, 0x1E, 2, 1, 0, 2, 2, 0, 1, 0x4E], .flush,
      .dir false, .cfgSet c0 true]) ∧
    (next? (exec (.transact 0) { machine .idle ping [0x55] [] with busEn := false })).map seen =
      some (.idle, 0x10, []) ∧
    (next? (exec (.transact 0) (machine .idle ping [0x55] [{}, {}, { configureOk := false }]))).map seen =
      some (.idle, 0x0C, [.drain, .cfgGet c0, .cfgSet cP false, .cfgSet c0 true]) := by decide
/-- V-P1, V-P2. -/
theorem test_settap : (next? (exec (.setTap (.handle 7) ⟨9⟩) (machine .sending ping [] []))).map
      (fun t => (t.tapFn, t.tapCtx, t.tapValid)) = some (.handle 7, ⟨9⟩, true) ∧
    (next? (exec (.setTap .empty ⟨3⟩) (tapped (machine .idle ping [] [])))).map
      (fun t => (t.tapFn, t.tapCtx, t.tapValid)) = some (.handle 7, ⟨9⟩, true) := by decide
/-- V-C7, V-E1 as commands; `CKSUM` is written by ENCODE only (V-E12). -/
theorem test_codec_commands :
    (next? (exec .checksum (machine .sending syncReq [] []))).map (fun t => (t.result, t.desc.cksum)) =
      some (.byte 0x4E, 0x77) ∧
    (next? (exec .encode (machine .idle ping [] []))).map (fun t => (t.result, t.desc.cksum)) =
      some (.bytes [0xFF, 0xFF, 1, 2, 1, 0xFB], 0xFB) := by decide
/-- A packet on the line, each form (R61, R66). -/
theorem test_wire : [Instr.reqPlain 1 2 1 [] 0xFB, .reqAddr 5 4 3 0x19 [1] 0xD9, .reqPcnt 7 3 0x55 9 [] 0x97,
    .reqAddrPcnt 1 4 2 0x24 2 [] 0xD2, .reqSync 0xFE 6 0x83 (some 0x20) 1 [(7, [0x55])] 0xFB,
    .resp 1 4 0 [0x12, 0] 0xE8].map (fun i => (next? (exec i (machine .idle ping [9] []))).map (·.ch.rx)) =
    [some [9, 0xFF, 0xFF, 1, 2, 1, 0xFB], some [9, 0xFF, 0xFF, 5, 4, 3, 0x19, 1, 0xD9],
      some [9, 0xFF, 0xFF, 7, 3, 0x55, 9, 0x97], some [9, 0xFF, 0xFF, 1, 4, 2, 0x24, 2, 0xD2],
      some [9, 0xFF, 0xFF, 0xFE, 6, 0x83, 0x20, 1, 7, 0x55, 0xFB], some [9, 0xFF, 0xFF, 1, 4, 0, 0x12, 0, 0xE8]] := by
  decide
/-- The refusals of program P8, as `step` records them. -/
theorem test_step_records_refusals : [[0x02], [0x09, 0, 0, 0, 0, 0, 0, 0], [0x00], [0x0F]].map (fun bs : List Byte =>
    (next? (step { machine .idle ping [] [] with inputs := [.instr bs] })).map (·.refusals)) =
    [some [.wrongPhase], some [.decodeByHost], some [.reservedCommand], some [.reservedCommand]] := by decide
/-- Another user of the channel, between transactions and inside one (R33, R210). -/
theorem test_other_configure :
    (next? (step { machine .idle ping [9] [] with inputs := [.otherConfigure cP] })).map (fun t => (t.ch, t.events)) =
      some (⟨cP, [9], []⟩, []) ∧
    refusal? (step { machine .sending ping [] [] with inputs := [.otherConfigure c0] }) = some .channelOwnedByEngine := by
  decide
/-- A word of the table is the next thing that runs after reset. -/
theorem test_reset_runs_placed_word : (next? (step (State.reset.withFetchWord 4 0x1))).map (·.phase) =
    (next? (exec .beginTxn State.reset)).map (·.phase) := rfl

/-! ## Witnesses: states and operands that meet the hypotheses of each statement, clause by clause -/

/-- The longest packet (V-C9). -/
def longest : Desc := request 1 255 3 255 255 [] []
/-- A move that brings nothing. -/
def silent : EnvMove := {}
/-- A machine with one input. -/
def given (input : Input) : State := { machine .idle ping [] [] with inputs := [input] }
/-- A machine stuck in a raw read. -/
def stuckMachine : State := { machine .receiving readReq [] [] with hung := some .rawRead }
/-- The response of scenario A, in the receive stream. -/
def answered : State := machine .sending readReq [0xFF, 0xFF, 1, 4, 0, 0x12, 0, 0xE8] []
/-- A receiver that has read the header of `d`'s packet with the changes `f` made to it. -/
def decoding (d : Desc) (f : List Byte → List Byte) : State :=
  { machine .receiving readReq ((f d.packet).drop 5 ++ [0xAA]) [] with
    hdr := overwrite (Vector.replicate _ 0) ((f d.packet).take 5), expId := d.id, expCnt := d.len.toNat - 2 }
/-- The request of V-E3: the form with an address. -/
def addrReq : Desc := request 5 4 3 0x19 255 [] [1]
/-- The outcome of an instruction, as a state. -/
def after (i : Instr) (s : State) : State := nextOr s (exec i s)

theorem witness_DecodeReadsBackEveryEncodedInstruction :
    [Instr.receive 0, .receive 253, .transact 253, .setTap .empty ⟨0⟩, .setTap (.handle 4294967294) ⟨4294967295⟩,
      .decode #v[1, 2, 3, 4, 5] 255 253, .reqPlain 254 2 255 [] 0, .reqAddr 0 4 1 254 [255] 255,
      .reqPcnt 0 3 1 254 [] 0, .reqAddrPcnt 253 4 1 0 0 [] 0, .reqSync 254 4 1 none 0 [(255, [])] 0,
      .reqSync 254 255 1 (some 0) 250 [(1, List.replicate 250 0)] 0, .resp 255 0 255 [] 0, .resp 0 2 0 [] 0,
      .resp 0 255 0 (List.replicate 253 1) 0].all Instr.wellFormed = true := by decide +kernel
theorem witness_StepRunsTheDecodedInstruction : (given (.instr [3, 2])).hung = none ∧
    (given (.instr [3, 2])).inputs = [.instr [3, 2]] ∧ decode [3, 2] = .ok (.receive 2, []) := ⟨rfl, rfl, rfl⟩
theorem witness_PlacedTableWordIsRunNext : decodeTableWord 8 0x5 = some (.transact 0) ∧
    decodeTableWord 40 0xFFFF000000 = some (.resp 0 0 0 [] 0) ∧ decodeTableWord 8 0xF = some .reservedF := by decide
theorem witness_WaitingAndStuckStepsChangeNothing : stuckMachine.hung ≠ none ∧ (machine .idle ping [] []).inputs = [] :=
  by decide
theorem witness_HostBufferWriteChangesOneElement :
    [Input.write (.data 0) 5, .write (.data 252) 5, .write (.data 253) 5, .write (.idlist 0) 5, .write (.idlist 250) 5,
      .write (.idlist 251) 5].map (fun i => ((given i).hung, (given i).inputs)) =
    [(none, [.write (.data 0) 5]), (none, [.write (.data 252) 5]), (none, [.write (.data 253) 5]),
      (none, [.write (.idlist 0) 5]), (none, [.write (.idlist 250) 5]), (none, [.write (.idlist 251) 5])] := by decide
theorem witness_HostRegisterWriteChangesOneRegister :
    [DescReg.id, .len, .instr, .addr, .pcnt, .idn, .cksum, .status].map
      (fun r => ((given (.write r 255)).hung, (given (.write r 255)).inputs)) =
    [(none, [.write .id 255]), (none, [.write .len 255]), (none, [.write .instr 255]), (none, [.write .addr 255]),
      (none, [.write .pcnt 255]), (none, [.write .idn 255]), (none, [.write .cksum 255]),
      (none, [.write .status 255])] := by decide
theorem witness_ResetInputDoesWhatTheRuleSays : (given .reset).hung = none ∧ (given .reset).inputs = [.reset] ∧
    (given .reset).phase = .idle ∧ { given .reset with phase := .receiving }.phase ≠ .idle := by decide
theorem witness_PlatformAndOtherUserChangeOneThing : (given (.busEnable false)).hung = none ∧
    (given (.busEnable false)).inputs = [.busEnable false] ∧ (given (.otherConfigure cP)).hung = none ∧
    (given (.otherConfigure cP)).inputs = [.otherConfigure cP] ∧ (given (.otherConfigure cP)).phase = .idle ∧
    { given (.otherConfigure cP) with phase := .reserved }.phase ≠ .idle := by decide
theorem witness_ChecksumReturnsTheByteOfTheRule : (machine .idle syncReq [] []).hung = none ∧ syncReq.wf = true ∧
    (request 255 2 1 255 255 [] []).wf = false ∧ ping.addr = 255 ∧ ping.pcnt = 255 ∧ ping.idn = 0 ∧
    2 ≤ ping.len.toNat ∧ longest.len.toNat = 255 := by decide
theorem witness_EncodeReturnsThePacketAndWritesCksum : (machine .sending longest [] []).hung = none ∧
    longest.wf = true ∧ (machine .idle (request 1 1 1 255 255 [] []) [] []).hung = none ∧
    (request 1 1 1 255 255 [] []).wf = false := by decide
theorem witness_RequestIsWellFormedExactlyByTheRule :
    [Phase.idle, .reserved].map (fun p => ((machine p (request 255 2 1 255 255 [] []) [] []).hung,
      (machine p (request 255 2 1 255 255 [] []) [] []).phase)) = [(none, .idle), (none, .reserved)] ∧
    ¬ Spec.wellFormedRequest (request 255 2 1 255 255 [] []) := by
  refine ⟨by decide, ?_⟩
  unfold Spec.wellFormedRequest
  decide
theorem witness_PacketIsTheFormTheDescriptorSelects :
    [ping, addrReq, request 7 3 0x55 255 9 [] [], readReq, syncReq, request 254 4 1 255 0 [9] []].map
      (fun d => (d.wf, d.idn == 0, d.addr == 255, d.pcnt == 255)) =
    [(true, true, true, true), (true, true, false, true), (true, true, true, false), (true, true, false, false),
      (true, false, false, false), (true, false, true, false)] := by decide
theorem witness_PacketHasLengthLenPlusFour : ping.wf = true ∧ longest.wf = true ∧ syncReq.wf = true := by decide
theorem witness_ChecksumDetectsOneChangedByteOnly : readReq.wf = true ∧ 2 < readReq.packet.length ∧
    readReq.packet[2]? ≠ some 9 ∧ 7 < readReq.packet.length ∧ readReq.packet[7]? ≠ some 9 ∧
    byteSum [1, 4, 2, 0x23, 3] % 256 = byteSum readReq.covered % 256 ∧ [4, 1, 2, 0x24, 2].Perm readReq.covered := by
  decide
theorem witness_PacketDoesNotTellWhichFormBuiltIt : addrReq.wf = true ∧ addrReq.idn = 0 ∧ addrReq.addr ≠ 255 ∧
    addrReq.pcnt = 255 ∧ 4 ≤ addrReq.len.toNat ∧ readBuf addrReq.data 0 ≠ 255 := by decide
theorem witness_DecodeEndsInOneOfTheOutcomesOfTheTable : (decoding readReq id).hung = none ∧
    (decoding readReq id).params.rxByteMode ≠ .rawUnbounded ∧
    Spec.headerGood (decoding readReq id).hdr (decoding readReq id).expId (decoding readReq id).expCnt ∧
    ¬ Spec.headerGood (decoding readReq fun b => b.set 3 5).hdr 1 2 ∧
    (Spec.payload (decoding readReq id)).length = (decoding readReq id).expCnt ∧
    Spec.checksumRead (decoding readReq id) = [0xD2] := by
  refine ⟨rfl, by decide, ?_, ?_, by decide, by decide⟩ <;> unfold Spec.headerGood <;> decide
/-- The same header with the payload one byte short, with the checksum missing, and with no payload at all. -/
theorem witness_DecodeEndsInOneOfTheOutcomesOfTheTable_short :
    let short (rx : List Byte) : State := { decoding readReq id with ch := ⟨cP, rx, []⟩ }
    (Spec.payload (short [0x24])).length < (short [0x24]).expCnt ∧
    (Spec.payload (short [0x24, 2])).length = (short [0x24, 2]).expCnt ∧ Spec.checksumRead (short [0x24, 2]) = [] ∧
    (Spec.payload (decoding ping id)).length = (decoding ping id).expCnt ∧ (decoding ping id).expCnt = 0 ∧
    Spec.checksumRead (decoding ping id) = [0xFB] := by decide
theorem witness_DecodeOfEncodeReproducesTheRequest : ∀ d ∈ [ping, addrReq, syncReq],
    d.wf = true ∧ (decoding d id).hung = none ∧ (decoding d id).quietChannel = true ∧
      (decoding d id).hdr.toList = d.packet.take 5 ∧ (decoding d id).expId = d.id ∧
      (decoding d id).expCnt = d.len.toNat - 2 ∧ (decoding d id).ch.rx = d.packet.drop 5 ++ [0xAA] := by decide
theorem witness_OneCorruptedByteIsAlwaysDetected : ∀ x ∈ [(0, 0xFE), (3, 5), (4, 3), (7, (0 : Byte))],
    readReq.wf = true ∧ (decoding readReq (·.set x.1 x.2)).hung = none ∧
      (decoding readReq (·.set x.1 x.2)).quietChannel = true ∧ x.1 < readReq.packet.length ∧
      readReq.packet[x.1]? ≠ some x.2 ∧
      (decoding readReq (·.set x.1 x.2)).hdr.toList = (readReq.packet.set x.1 x.2).take 5 ∧
      (decoding readReq (·.set x.1 x.2)).expId = readReq.id ∧
      (decoding readReq (·.set x.1 x.2)).expCnt = readReq.len.toNat - 2 ∧
      (decoding readReq (·.set x.1 x.2)).ch.rx = (readReq.packet.set x.1 x.2).drop 5 ++ [0xAA] := by decide
theorem witness_BeginReservesTheChannel : (machine .idle ping [0x55] []).ready [.idle] ∧
    (machine .idle ping [0x55] []).busEn = true ∧
    (Spec.move (machine .idle ping [0x55] []) 2).configureOk = true := ⟨⟨rfl, by decide⟩, rfl, rfl⟩
theorem witness_BeginFailsFastOnADisabledBus : State.ready { machine .idle ping [] [] with busEn := false } [.idle] ∧
    { machine .idle ping [] [] with busEn := false }.busEn = false := ⟨⟨rfl, by decide⟩, rfl⟩
theorem witness_BeginRestoresWhenTheConfigurationFails :
    (machine .idle ping [] [silent, silent, { configureOk := false }]).ready [.idle] ∧
    (machine .idle ping [] [silent, silent, { configureOk := false }]).busEn = true ∧
    (Spec.move (machine .idle ping [] [silent, silent, { configureOk := false }]) 2).configureOk = false :=
  ⟨⟨rfl, by decide⟩, rfl, rfl⟩
theorem witness_SendTransmitsThePacketOnce : (machine .reserved syncReq [] []).ready [.reserved] ∧ syncReq.wf = true ∧
    (Spec.move (machine .reserved syncReq [] []) 1).flushReturns = true := ⟨⟨rfl, by decide⟩, by decide, rfl⟩
theorem witness_SendOnAChannelThatNeverDrainsIsStuck :
    (machine .reserved ping [] [silent, { flushReturns := false }]).ready [.reserved] ∧ ping.wf = true ∧
    (Spec.move (machine .reserved ping [] [silent, { flushReturns := false }]) 1).flushReturns = false :=
  ⟨⟨rfl, by decide⟩, by decide, rfl⟩
theorem witness_EndRestoresWhatBeginSaved : (machine .receiving ping [] []).hung = none ∧
    (machine .receiving ping [] []).savedValid = true ∧
    (Spec.move (machine .receiving ping [] []) 0).configureOk = true ∧
    (machine .receiving ping [] [{ configureOk := false }]).savedValid = true ∧
    (Spec.move (machine .receiving ping [] [{ configureOk := false }]) 0).configureOk = false ∧
    (machine .idle ping [] []).savedValid = false := ⟨rfl, rfl, rfl, rfl, rfl, rfl⟩
theorem witness_ReceiveSkipsABroadcast : (machine .sending syncReq [] []).ready [.sending] ∧ 253 ≤ 253 ∧
    (machine .sending syncReq [] []).desc.id = 254 := ⟨⟨rfl, by decide⟩, by decide, rfl⟩
theorem witness_ReceiveOfAWholeResponse : answered.ready [.sending] ∧ answered.desc.id ≠ 254 ∧
    ([0x12, 0] : List Byte).length ≤ 253 ∧ answered.quietChannel = true ∧ answered.ch.rx =
      [0xFF, 0xFF, answered.desc.id, BitVec.ofNat 8 (([0x12, 0] : List Byte).length + 2), 0] ++ [0x12, 0] ++ [0xE8]
        ++ [] := ⟨⟨rfl, by decide⟩, by decide, by decide, by decide, by decide⟩
/-- The same with no parameters: the acknowledgement of V-D13. -/
theorem witness_ReceiveOfAWholeResponse_empty : (machine .sending readReq [0xFF, 0xFF, 1, 2, 0, 0xFC] []).ch.rx =
    [0xFF, 0xFF, readReq.id, BitVec.ofNat 8 (([] : List Byte).length + 2), 0] ++ [] ++ [0xFC] ++ [] := by decide
theorem witness_ReceiveOfABadHeader : answered.ready [.sending] ∧ answered.desc.id ≠ 254 ∧ 3 ≤ 253 ∧
    answered.quietChannel = true ∧ answered.ch.rx = #v[0xFF, 0xFF, 1, 4, 0].toList ++ [0x12, 0, 0xE8] ∧
    ¬ Spec.headerGood #v[0xFF, 0xFF, 1, 4, 0] answered.desc.id 3 :=
  ⟨⟨rfl, by decide⟩, by decide, by decide, by decide, by decide, by unfold Spec.headerGood; decide⟩
/-- The same for check (a) on each header byte and for check (b); at a device id one off the expected. -/
theorem witness_ReceiveOfABadHeader_checks : ¬ Spec.headerGood #v[0xFE, 0xFF, 1, 4, 0] answered.desc.id 2 ∧
    ¬ Spec.headerGood #v[0xFF, 0, 1, 4, 0] answered.desc.id 2 ∧
    ¬ Spec.headerGood #v[0xFF, 0xFF, 2, 4, 0] answered.desc.id 2 ∧
    (machine .sending readReq ([0xFE, 0xFF, 1, 4, 0] ++ [9]) []).ch.rx = #v[0xFE, 0xFF, 1, 4, 0].toList ++ [9] := by
  refine ⟨?_, ?_, ?_, by decide⟩ <;> unfold Spec.headerGood <;> decide
theorem witness_ReceiveTimesOutWithoutAHeader :
    (machine .sending readReq [0xFF, 0xFF, 1, 4] []).ready [.sending] ∧ readReq.id ≠ 254 ∧ 253 ≤ 253 ∧
    (machine .sending readReq [0xFF, 0xFF, 1, 4] []).quietChannel = true ∧
    (machine .sending readReq [0xFF, 0xFF, 1, 4] []).ch.rx.length < 5 :=
  ⟨⟨rfl, by decide⟩, by decide, by decide, by decide, by decide⟩
theorem witness_TimeoutExactlyWhenNoAskingSawAHeader : answered.ready [.sending] ∧ answered.desc.id ≠ 254 ∧
    2 ≤ 253 ∧ (exec (.receive 2) answered = .next (after (.receive 2) answered)) ∧
    Event.avail 8 ∈ (after (.receive 2) answered).events := ⟨⟨rfl, by decide⟩, by decide, by decide, rfl, by decide⟩
/-- A short header read: V-R7 at the first asking, and the same at the last. -/
theorem witness_ReceiveOfAHeaderFoundAtAnyAsking_short :
    let first := machine .sending readReq [0xFF, 0xFF, 1] [{ avail := some 5 }]
    let last := machine .sending readReq [0xFF, 0xFF, 1, 4]
      (List.replicate 200 silent ++ [{ arrive := [0] }, { readLimit := some 0 }])
    (first.ready [.sending] ∧ last.ready [.sending]) ∧ readReq.id ≠ 254 ∧ 253 ≤ 253 ∧
    platform.rxByteMode ≠ .rawUnbounded ∧ 5 ≤ Spec.answerAt first 0 ∧
    (Spec.headerRead first 0).length = 3 ∧ (∀ i, i < 100 → Spec.answerAt last i < 5) ∧
    5 ≤ Spec.answerAt last 100 ∧ (Spec.headerRead last 100).length = 0 :=
  ⟨⟨⟨rfl, by decide⟩, ⟨rfl, by decide⟩⟩, by decide, by decide, by decide, by decide, by decide, by decide +kernel,
    by decide +kernel, by decide +kernel⟩
/-- A header of five bytes: V-R4, the whole response at the last asking; V-R14, the rest while the payload read waits. -/
theorem witness_ReceiveOfAHeaderFoundAtAnyAsking :
    let last := machine .sending readReq []
      (List.replicate 200 silent ++ [{ arrive := [0xFF, 0xFF, 1, 4, 0, 0x12, 0, 0xE8] }])
    let waits := machine .sending readReq [0xFF, 0xFF, 1, 4, 0] [silent, silent, { arrive := [0x12, 0, 0xE8] }]
    (last.ready [.sending] ∧ waits.ready [.sending]) ∧ (∀ i, i < 100 → Spec.answerAt last i < 5) ∧
    5 ≤ Spec.answerAt last 100 ∧ Spec.headerRead last 100 = #v[0xFF, 0xFF, 1, 4, 0].toList ∧
    5 ≤ Spec.answerAt waits 0 ∧ Spec.headerRead waits 0 = #v[0xFF, 0xFF, 1, 4, 0].toList :=
  ⟨⟨⟨rfl, by decide⟩, ⟨rfl, by decide⟩⟩, by decide +kernel, by decide +kernel, by decide +kernel, by decide,
    by decide⟩
theorem witness_ReceiveOfAShortResponse :
    (machine .sending readReq [0xFF, 0xFF, 1, 4, 0, 0x12] []).ready [.sending] ∧ readReq.id ≠ 254 ∧ 2 ≤ 253 ∧
    ([0x12] : List Byte).length ≤ 2 ∧ (machine .sending readReq [0xFF, 0xFF, 1, 4, 0, 0x12] []).quietChannel = true ∧
    platform.rxByteMode ≠ .rawUnbounded ∧ (machine .sending readReq [0xFF, 0xFF, 1, 4, 0, 0x12] []).ch.rx =
      [0xFF, 0xFF, readReq.id, BitVec.ofNat 8 (2 + 2), 0] ++ [0x12] :=
  ⟨⟨rfl, by decide⟩, by decide, by decide, by decide, by decide, by decide, by decide⟩
theorem witness_ShortResponseHangsTheUnboundedRead :
    (inMode .rawUnbounded (machine .sending readReq [0xFF, 0xFF, 1, 4, 0, 0x12] [])).ready [.sending] ∧
    (inMode .rawUnbounded (machine .sending readReq [0xFF, 0xFF, 1, 4, 0, 0x12] [])).quietChannel = true ∧
    (inMode .rawUnbounded (machine .sending readReq [0xFF, 0xFF, 1, 4, 0, 0x12] [])).params.rxByteMode =
      .rawUnbounded ∧ ([0x12] : List Byte).length ≤ 2 ∧ readReq.id ≠ 254 ∧
    (inMode .rawUnbounded (machine .sending readReq [0xFF, 0xFF, 1, 4, 0, 0x12] [])).ch.rx =
      [0xFF, 0xFF, readReq.id, BitVec.ofNat 8 (2 + 2), 0] ++ [0x12] :=
  ⟨⟨rfl, by decide⟩, by decide, rfl, by decide, by decide, by decide⟩
theorem witness_ReceiveEndsWithinItsBounds : answered.ready [.sending] ∧ 2 ≤ 253 ∧
    (after (.receive 2) answered).hung = none ∧ (after (.receive 2) (inMode .rawUnbounded
      (machine .sending readReq [0xFF, 0xFF, 1, 4, 0, 0x12] []))).hung ≠ none :=
  ⟨⟨rfl, by decide⟩, by decide, by decide, by decide⟩
theorem witness_EchoOfTheRequestIsReadAsAResponse :
    (machine .sending readReq (readReq.packet ++ [0xFF]) []).ready [.sending] ∧ readReq.wf = true ∧
    readReq.id ≠ 254 ∧ (machine .sending readReq (readReq.packet ++ [0xFF]) []).quietChannel = true ∧
    (machine .sending readReq (readReq.packet ++ [0xFF]) []).ch.rx = readReq.packet ++ [0xFF] :=
  ⟨⟨rfl, by decide⟩, by decide, by decide, by decide, rfl⟩

/-- The machine of scenario A before TRANSACT: the response comes at the first asking. -/
def scenarioA : State := machine .idle readReq [] (List.replicate 5 silent
  ++ [{ arrive := [0xFF, 0xFF, 1, 4, 0, 0x12, 0, 0xE8] }])

theorem witness_TransactIsTheFourCommandsInSequence :
    let s1 := after .beginTxn scenarioA; let s2 := after .send s1; let s3 := after (.receive 2) s2
    let s4 := after .endTxn s3
    readReq.wf = true ∧ 2 ≤ 253 ∧ exec .beginTxn scenarioA = .next s1 ∧ s1.result = .status Flag.ok ∧
      exec .send s1 = .next s2 ∧ exec (.receive 2) s2 = .next s3 ∧ exec .endTxn s3 = .next s4 :=
  ⟨by decide, by decide, rfl, rfl, rfl, rfl, rfl⟩
theorem witness_TransactReturnsTheFailureOfBegin :
    State.ready { machine .idle ping [] [] with busEn := false } [.idle] ∧ ping.wf = true ∧ 253 ≤ 253 ∧
    (machine .idle ping [] [silent, silent, { configureOk := false }]).ready [.idle] ∧
    (machine .idle ping [] [silent, silent, { configureOk := false }]).busEn = true ∧
    (Spec.move (machine .idle ping [] [silent, silent, { configureOk := false }]) 2).configureOk = false :=
  ⟨⟨rfl, by decide⟩, by decide, by decide, ⟨rfl, by decide⟩, rfl, rfl⟩
theorem witness_TransactOfABroadcastCompletes : (machine .idle syncReq [9] []).ready [.idle] ∧ syncReq.wf = true ∧
    0 ≤ 253 ∧ (machine .idle syncReq [9] []).busEn = true ∧ syncReq.id = 254 ∧
    (machine .idle syncReq [9] []).quietChannel = true ∧ (machine .idle syncReq [9] []).soundChannel = true :=
  ⟨⟨rfl, by decide⟩, by decide, by decide, rfl, rfl, by decide, by decide⟩
theorem witness_TransactWithAPromptResponseCompletes : scenarioA.ready [.idle] ∧ scenarioA.desc.wf = true ∧
    scenarioA.busEn = true ∧ scenarioA.desc.id ≠ 254 ∧ ([0x12, 0] : List Byte).length ≤ 253 ∧
    0xE8 = complementByte (scenarioA.desc.id.toNat + (([0x12, 0] : List Byte).length + 2) + (0 : Byte).toNat
      + byteSum [0x12, 0]) ∧
    scenarioA.env = List.replicate 5 ({} : EnvMove) ++ ({ arrive := [0xFF, 0xFF, scenarioA.desc.id,
        BitVec.ofNat 8 (([0x12, 0] : List Byte).length + 2), 0] ++ [0x12, 0] ++ [0xE8] } : EnvMove) :: [] ∧
    ([] : List EnvMove).all EnvMove.quiet = true ∧ (([] : List EnvMove).all fun m => m.configureOk) = true :=
  ⟨⟨rfl, by decide⟩, by decide, rfl, by decide, by decide, by decide, by decide, rfl, rfl⟩
theorem witness_TransactReturnsToIdleWithAKnownStatus : scenarioA.ready [.idle] ∧ scenarioA.desc.wf = true ∧
    2 ≤ 253 ∧ scenarioA.savedValid = false ∧ (after (.transact 2) scenarioA).hung = none :=
  ⟨⟨rfl, by decide⟩, by decide, by decide, rfl, by decide⟩
theorem witness_TransactLeavesTheChannelAsItWas :
    exec (.transact 2) scenarioA = .next (after (.transact 2) scenarioA) ∧
    (after (.transact 2) scenarioA).hung = none := ⟨rfl, by decide⟩
theorem witness_TransactionEventsComeInTheGuaranteedOrder :
    exec (.transact 2) scenarioA = .next (after (.transact 2) scenarioA) ∧
    (after (.transact 2) scenarioA).hung = none ∧ scenarioA.busEn = true ∧
    (Spec.move scenarioA 2).configureOk = true := ⟨rfl, by decide, rfl, rfl⟩
theorem witness_CommandsAreRefusedExactlyOutOfPhase :
    [Phase.idle, .reserved, .sending, .receiving].map (fun p => (machine p ping [] []).hung) =
      List.replicate 4 none := by decide
theorem witness_IllFormedOperandsAreRefused : (machine .reserved (request 255 2 1 255 255 [] []) [] []).hung = none ∧
    (machine .reserved ping [] []).phase = .reserved ∧ (request 255 2 1 255 255 [] []).wf = false ∧
    (machine .idle ping [] []).phase = .idle ∧ (machine .sending ping [] []).phase = .sending ∧ 253 < 254 ∧
    ping.wf = true := by decide
theorem witness_NoCommandIsAcceptedWhileOneRuns : stuckMachine.hung ≠ none ∧
    Instr.transact 0 ∈ [Instr.beginTxn, .send, .receive 0, .endTxn, .transact 0, .setTap .empty ⟨0⟩, .checksum,
      .encode] := by decide
theorem witness_ReservedCodesAndHostDecodeAreRefused : Instr.reservedC ∈ [Instr.reserved0, .reservedA, .reservedB,
    .reservedC, .reservedD, .reservedE, .reservedF] := by decide
theorem witness_SetTapReplacesTheSubscriber : (tapped (machine .sending ping [] [])).hung = none := rfl
theorem witness_TapNeverAltersTheOutcome : (∀ fn ctx, Instr.receive 2 ≠ .setTap fn ctx) ∧
    (tapped answered).withoutTap ≠ tapped answered := by
  refine ⟨fun _ _ h => ?_, fun h => ?_⟩
  · cases h
  · exact absurd (congrArg State.tapValid h) (by decide)
theorem witness_TapSeesExactlyTheBytesRead :
    exec (.receive 2) (tapped answered) = .next (after (.receive 2) (tapped answered)) ∧
    (tapped answered).tapValid = true ∧ exec (.receive 2) answered = .next (after (.receive 2) answered) ∧
    answered.tapValid = false := ⟨rfl, rfl, rfl, rfl⟩
theorem witness_SubscriberStaysUntilReset :
    let s := tapped (given (.instr [6, 0, 0, 0, 0, 0, 0, 0, 0]))
    s.tapValid = true ∧ s.inputs.head? ≠ some .reset ∧ step s = .next (nextOr s (step s)) := ⟨rfl, by decide, rfl⟩
theorem witness_EveryStepKeepsTheInvariant : State.Inv (given (.instr [1])) ∧
    step (given (.instr [1])) = .next (nextOr (given (.instr [1])) (step (given (.instr [1])))) :=
  ⟨by constructor <;> decide, rfl⟩
/-- The step of this witness also serves NoStepChangesTheParameters and HistoryOnlyGrows. -/
theorem witness_NoStepChangesTheParameters :
    step (given (.instr [1])) = .next (nextOr (given (.instr [1])) (step (given (.instr [1])))) := rfl
theorem witness_DescriptorAndSavedCfgAreWrittenByTheirCommandsOnly : (∀ n, Instr.encode ≠ .receive n) ∧
    (∀ n, Instr.encode ≠ .transact n) ∧ Instr.endTxn ≠ .send ∧ Instr.endTxn ≠ .encode ∧
    exec .encode (given .reset) = .next (after .encode (given .reset)) ∧ Instr.receive 2 ≠ .beginTxn ∧
    (∀ n, Instr.receive 2 ≠ .transact n) ∧ exec (.receive 2) answered = .next (after (.receive 2) answered) :=
  ⟨fun _ h => (by cases h), fun _ h => (by cases h), by decide, by decide, rfl, by decide, fun _ h => (by cases h), rfl⟩
theorem witness_BusEnableGatesBeginAndTransactOnly : exec .beginTxn (given .reset) =
    .next (after .beginTxn (given .reset)) ∧ Instr.endTxn ≠ .beginTxn ∧ ∀ n, Instr.endTxn ≠ .transact n :=
  ⟨rfl, by decide, fun _ h => (by cases h)⟩
theorem witness_RawBoundedBehavesAsGeneric : answered.params.rxByteMode = .generic := rfl

end Sys2Proof.Tests
end

section
/-! SUPPORT. What one step does, said once: the stuck engine, the empty queue of inputs, the next input, and the command
or packet that the next input's bytes decode to. -/

namespace Sys2Proof.Machine

/-- An engine stuck in a command never moves again (R126, R208; log 11). -/
theorem step_of_stuck {s : State} (h : s.hung ≠ none) : step s = .next s := by
  simp [step, (stuck_iff s).mpr h]

theorem step_of_no_input {s : State} (h : s.inputs = []) : step s = .next s := by
  cases hs : s.stuck with
  | true => exact step_of_stuck ((stuck_iff s).mp hs)
  | false => simp [step, hs, h]

/-- A machine that is not stuck takes the next input (R7, R164). -/
theorem step_of_input {s : State} {input : Input} {rest : List Input} (hh : s.hung = none)
    (hi : s.inputs = input :: rest) : step s = runInput input { s with inputs := rest } := by
  simp [step, not_stuck hh, hi]

/-- Only the decoded instruction matters: what stands behind its bytes is dropped. -/
theorem runInput_instr {bytes rest : List Byte} {i : Instr} (hd : decode bytes = .ok (i, rest)) (s : State) :
    runInput (.instr bytes) s = afterCommand s (exec i s) := by
  simp [runInput, hd]

theorem step_of_instr {s : State} {bytes rest : List Byte} {inputs : List Input} {i : Instr} (hh : s.hung = none)
    (hi : s.inputs = .instr bytes :: inputs) (hd : decode bytes = .ok (i, rest)) :
    step s = afterCommand { s with inputs := inputs } (exec i { s with inputs := inputs }) := by
  rw [step_of_input hh hi, runInput_instr hd]

theorem decodeTableWord_eq_some_iff (nbits w : Nat) (i : Instr) :
    decodeTableWord nbits w = some i ↔ ∃ rest, decode (tableBytes nbits w) = .ok (i, rest) := by
  unfold decodeTableWord
  cases decode (tableBytes nbits w) with
  | error e => simp
  | ok p => simp [Prod.ext_iff]

@[simp] theorem withFetchWord_hung (s : State) (nbits w : Nat) : (s.withFetchWord nbits w).hung = none := rfl

@[simp] theorem withFetchWord_inputs (s : State) (nbits w : Nat) :
    (s.withFetchWord nbits w).inputs = .instr (tableBytes nbits w) :: s.inputs := rfl

/-- The placed word is taken off the inputs again, so the instruction runs on `s` freed of its stuck command (log 3). -/
theorem step_withFetchWord (s : State) {nbits w : Nat} {i : Instr} (h : decodeTableWord nbits w = some i) :
    step (s.withFetchWord nbits w) = afterCommand { s with hung := none } (exec i { s with hung := none }) := by
  obtain ⟨rest, hd⟩ := (decodeTableWord_eq_some_iff nbits w i).mp h
  exact step_of_instr (withFetchWord_hung s nbits w) (withFetchWord_inputs s nbits w) hd

/-- Settles O4: `step_withFetchWord`, with the three outcomes of `afterCommand` written out. -/
theorem placedTableWordIsRunNext : Obligations.PlacedTableWordIsRunNext := by
  intro s nbits w i h
  rw [step_withFetchWord s h]
  cases exec i { s with hung := none } with
  | next t => rfl
  | fault f => rfl
  | refused r => rfl

/-- Settles O5: one lemma for each of the two reasons to stay. -/
theorem waitingAndStuckStepsChangeNothing : Obligations.WaitingAndStuckStepsChangeNothing := by
  intro s h
  obtain hstuck | hwaiting := h
  · exact step_of_stuck hstuck
  · exact step_of_no_input hwaiting

end Sys2Proof.Machine
end

section
/-! SUPPORT. What an accepted instruction and a step can do, each said once as an inversion: the instruction runs its
body or makes a packet arrive, and the step runs an instruction, records a refusal, or applies one of the other inputs. -/

namespace Sys2Proof.Machine

/-! ## The operations of the engine -/

@[simp] theorem releaseLine_desc (s : State) : (releaseLine s).desc = s.desc := by
  unfold releaseLine; split <;> rfl
@[simp] theorem releaseLine_phase (s : State) : (releaseLine s).phase = s.phase := by
  unfold releaseLine; split <;> rfl
@[simp] theorem releaseLine_savedCfg (s : State) : (releaseLine s).savedCfg = s.savedCfg := by
  unfold releaseLine; split <;> rfl
@[simp] theorem releaseLine_params (s : State) : (releaseLine s).params = s.params := by
  unfold releaseLine; split <;> rfl

@[simp] theorem beginBody_params (s : State) : (beginBody s).2.params = s.params := by
  unfold beginBody; dsimp only; split_ifs <;> simp
@[simp] theorem beginBody_desc (s : State) : (beginBody s).2.desc = s.desc := by
  unfold beginBody; dsimp only; split_ifs <;> simp
@[simp] theorem beginBody_hung (s : State) : (beginBody s).2.hung = s.hung := by
  unfold beginBody; dsimp only; split_ifs <;> simp

/-- A BEGIN that answers OK leaves the engine in `RESERVED` (R112). -/
theorem beginBody_phase_of_ok (s : State) (h : (beginBody s).1 = Flag.ok) : (beginBody s).2.phase = .reserved := by
  cases hb : s.busEn with
  | false => rw [beginBody_disabled s hb] at h; exact absurd h (show Flag.fail ≠ Flag.ok by decide)
  | true =>
    cases hc : (moveAt s 2).configureOk with
    | false => rw [beginBody_failed s hb hc] at h; exact absurd h (show Flag.comInternal ≠ Flag.ok by decide)
    | true => rw [beginBody_applied s hb hc]

@[simp] theorem sendBody_params (s : State) : (sendBody s).params = s.params := by
  simp [sendBody]
@[simp] theorem sendBody_savedCfg (s : State) : (sendBody s).savedCfg = s.savedCfg := by
  simp [sendBody]
@[simp] theorem sendBody_phase (s : State) : (sendBody s).phase = .sending := by
  simp [sendBody]

/-- SEND writes `CKSUM` and no other register of the descriptor (R116). -/
@[simp] theorem sendBody_desc (s : State) : (sendBody s).desc = { s.desc with cksum := s.desc.checksum } := by
  simp [sendBody]

@[simp] theorem endBody_desc (s : State) : (endBody s).desc = s.desc := by
  unfold endBody; dsimp only; split <;> simp
@[simp] theorem endBody_params (s : State) : (endBody s).params = s.params := by
  unfold endBody; dsimp only; split <;> simp
@[simp] theorem endBody_savedCfg (s : State) : (endBody s).savedCfg = s.savedCfg := by
  unfold endBody; dsimp only; split <;> simp
@[simp] theorem endBody_phase (s : State) : (endBody s).phase = .idle := by
  unfold endBody; dsimp only; split <;> rfl
@[simp] theorem endBody_pollcnt (s : State) : (endBody s).pollcnt = s.pollcnt := by
  unfold endBody; dsimp only; split <;> simp
@[simp] theorem endBody_expCnt (s : State) : (endBody s).expCnt = s.expCnt := by
  unfold endBody; dsimp only; split <;> simp
@[simp] theorem endBody_dir (s : State) : (endBody s).dir = s.dir := by
  unfold endBody; dsimp only; split <;> simp
@[simp] theorem endBody_hung (s : State) : (endBody s).hung = s.hung := by
  unfold endBody; dsimp only; split <;> simp
@[simp] theorem endBody_savedValid (s : State) : (endBody s).savedValid = false := by
  unfold endBody; dsimp only; split <;> simp_all

/-- TRANSACT ends after a failed BEGIN, stuck in its SEND, stuck in its RECEIVE, or with END (R126, R129, R208). -/
theorem transactBody_cases (n : Nat) (s : State) :
    ((beginBody s).1 ≠ Flag.ok ∧ transactBody n s = setStatus (beginBody s).1 (beginBody s).2) ∨
    ((beginBody s).1 = Flag.ok ∧ (sendBody (beginBody s).2).hung ≠ none ∧
      transactBody n s = sendBody (beginBody s).2) ∨
    ((beginBody s).1 = Flag.ok ∧ (sendBody (beginBody s).2).hung = none ∧
      (receiveBody n (sendBody (beginBody s).2)).hung ≠ none ∧
      transactBody n s = receiveBody n (sendBody (beginBody s).2)) ∨
    ((beginBody s).1 = Flag.ok ∧ (sendBody (beginBody s).2).hung = none ∧
      (receiveBody n (sendBody (beginBody s).2)).hung = none ∧
      transactBody n s = endBody (receiveBody n (sendBody (beginBody s).2))) := by
  by_cases hb : (beginBody s).1 = Flag.ok
  · by_cases hs : (sendBody (beginBody s).2).hung = none
    · by_cases hr : (receiveBody n (sendBody (beginBody s).2)).hung = none
      · exact .inr (.inr (.inr ⟨hb, hs, hr, transactBody_sequence n s hb hs hr⟩))
      · refine .inr (.inr (.inl ⟨hb, hs, hr, ?_⟩))
        simp [transactBody, hb, not_stuck hs, (stuck_iff _).mpr hr]
    · refine .inr (.inl ⟨hb, hs, ?_⟩)
      simp [transactBody, hb, (stuck_iff _).mpr hs]
  · exact .inl ⟨hb, transactBody_exit n s hb⟩

/-- TRANSACT changes no parameter (R193). -/
@[simp] theorem transactBody_params (n : Nat) (s : State) : (transactBody n s).params = s.params := by
  rcases transactBody_cases n s with ⟨_, e⟩ | ⟨_, _, e⟩ | ⟨_, hs, _, e⟩ | ⟨_, hs, _, e⟩
  · simp [e]
  · simp [e]
  · simp [e, (receiveBody_frame n _ hs).params]
  · simp [e, (receiveBody_frame n _ hs).params]

theorem returnStatus_eq (s : State) : returnStatus s = s ∨ returnStatus s = setResult (.status s.desc.status) s := by
  unfold returnStatus
  split
  · exact .inl rfl
  · exact .inr rfl

@[simp] theorem returnStatus_params (s : State) : (returnStatus s).params = s.params := by
  rcases returnStatus_eq s with e | e <;> simp [e]

/-! ## One instruction -/

/-- `Executes s i t`: the instruction `i`, accepted in `s`, leads to `t`. The cases are the commands that are not always
refused, with what their acceptance requires (R70, R71, R111, R131), and the packets on the line (R31). -/
inductive Executes (s : State) : Instr → State → Prop
  | beginTxn (hh : s.hung = none) (hp : s.phase = .idle) :
      Executes s .beginTxn (setResult (.status (beginBody s).1) (beginBody s).2)
  | send (hh : s.hung = none) (hp : s.phase = .reserved) (hw : s.desc.wf = true) : Executes s .send (sendBody s)
  | receive (n : Nat) (hh : s.hung = none) (hp : s.phase = .sending) (hn : n ≤ Config.countMax) :
      Executes s (.receive n) (receiveBody n s)
  | endTxn (hh : s.hung = none) : Executes s .endTxn (endBody s)
  | transact (n : Nat) (hh : s.hung = none) (hp : s.phase = .idle) (hw : s.desc.wf = true)
      (hn : n ≤ Config.countMax) : Executes s (.transact n) (returnStatus (transactBody n s))
  | setTapEmpty (ctx : TapCtx) (hh : s.hung = none) : Executes s (.setTap .empty ctx) s
  | setTap (fn : TapFn) (ctx : TapCtx) (hh : s.hung = none) (hf : fn ≠ .empty) :
      Executes s (.setTap fn ctx) { s with tapFn := fn, tapCtx := ctx, tapValid := true }
  | checksum (hh : s.hung = none) (hw : s.desc.wf = true) :
      Executes s .checksum (setResult (.byte s.desc.checksum) s)
  | encode (hh : s.hung = none) (hw : s.desc.wf = true) :
      Executes s .encode (setResult (.bytes s.desc.packet) (writeChecksum s))
  | packet (i : Instr) (bs : List Byte) (hi : exec i s = .next (arrive bs s)) : Executes s i (arrive bs s)

/-- An instruction that answers a next state was accepted and did what `Executes` says. -/
theorem exec_next {i : Instr} {s t : State} (h : exec i s = .next t) : Executes s i t := by
  cases i with
  | beginTxn =>
    obtain ⟨hh, hp, e⟩ := acceptIn_next h
    cases e; exact .beginTxn hh (by simpa using hp)
  | send =>
    obtain ⟨hh, hp, hr⟩ := acceptIn_next h
    obtain ⟨hw, e⟩ := require_next hr
    cases e; exact .send hh (by simpa using hp) hw
  | receive n =>
    obtain ⟨hh, hp, hr⟩ := acceptIn_next h
    obtain ⟨hn, e⟩ := require_next hr
    cases e; exact .receive n hh (by simpa using hp) (by simpa [countInRange] using hn)
  | endTxn =>
    obtain ⟨hh, -, e⟩ := acceptIn_next h
    cases e; exact .endTxn hh
  | transact n =>
    obtain ⟨hh, hp, hr⟩ := acceptIn_next h
    obtain ⟨hw, hr⟩ := require_next hr
    obtain ⟨hn, e⟩ := require_next hr
    cases e; exact .transact n hh (by simpa using hp) hw (by simpa [countInRange] using hn)
  | setTap fn ctx =>
    obtain ⟨hh, -, e⟩ := acceptIn_next h
    by_cases hf : fn = .empty
    · subst hf; cases e; exact .setTapEmpty ctx hh
    · rw [if_neg hf] at e; cases e; exact .setTap fn ctx hh hf
  | checksum =>
    obtain ⟨hh, -, hr⟩ := acceptIn_next h
    obtain ⟨hw, e⟩ := require_next hr
    cases e; exact .checksum hh hw
  | encode =>
    obtain ⟨hh, -, hr⟩ := acceptIn_next h
    obtain ⟨hw, e⟩ := require_next hr
    cases e; exact .encode hh hw
  | decode => cases h
  | reserved0 | reservedA | reservedB | reservedC | reservedD | reservedE | reservedF => cases h
  | reqPlain | reqAddr | reqPcnt | reqAddrPcnt | reqSync | resp => cases h; exact .packet _ _ rfl

/-! ## One input and one step -/

/-- `Takes s t`: an input taken in the state `s`, which no longer holds it, leads to `t`. -/
inductive Takes (s : State) : State → Prop
  | executes (i : Instr) (t : State) (h : Executes s i t) : Takes s t
  | refuses (r : Refusal) : Takes s (recordRefusal r s)
  | writes (d : Desc) : Takes s { s with desc := d }
  | busEnable (b : Bool) : Takes s (setBusEnable b s)
  | reset (hp : s.phase = .idle) : Takes s (resetEvent s)
  | otherConfigure (c : Settings) (hp : s.phase = .idle) : Takes s (setChannelCfg c s)

/-- A command leads where `Executes` says, or leaves the record of its refusal (R111, U9). -/
theorem afterCommand_next {i : Instr} {s t : State} (h : afterCommand s (exec i s) = .next t) : Takes s t := by
  cases he : exec i s with
  | next u => rw [he] at h; cases h; exact .executes i t (exec_next he)
  | fault f => rw [he] at h; cases h
  | refused r => rw [he] at h; cases h; exact .refuses r

/-- A host write that does not fault changes the descriptor alone (R10). -/
theorem hostWrite_next {r : DescReg} {v : Byte} {s t : State} (h : hostWrite r v s = .next t) :
    ∃ d, t = { s with desc := d } := by
  cases r with
  | data i | idlist i =>
    unfold hostWrite at h
    dsimp only at h
    split at h <;> cases h
    exact ⟨_, rfl⟩
  | id | len | instr | addr | pcnt | idn | cksum | status => cases h; exact ⟨_, rfl⟩

theorem runInput_next {input : Input} {s t : State} (h : runInput input s = .next t) : Takes s t := by
  cases input with
  | instr bytes =>
    cases hd : decode bytes with
    | ok p => exact afterCommand_next ((runInput_instr hd s).symm.trans h)
    | error e => simp [runInput, hd] at h
  | write r v =>
    obtain ⟨d, rfl⟩ := hostWrite_next h
    exact .writes d
  | busEnable b => cases h; exact .busEnable b
  | reset =>
    change hostReset s = _ at h
    unfold hostReset at h
    split at h
    · next hp => cases h; exact .reset hp
    · cases h
  | otherConfigure c =>
    change otherConfigure c s = _ at h
    rcases otherConfigure_cases c s with ⟨hp, e⟩ | ⟨-, e⟩ <;> rw [e] at h <;> cases h
    exact .otherConfigure c hp

/-- A step changes nothing, or a machine that is not stuck takes its next input. -/
theorem step_next {s t : State} (h : step s = .next t) :
    t = s ∨ s.hung = none ∧ ∃ rest, Takes { s with inputs := rest } t := by
  by_cases hh : s.hung = none
  · cases hi : s.inputs with
    | nil => rw [step_of_no_input hi] at h; cases h; exact .inl rfl
    | cons input rest => exact .inr ⟨hh, rest, runInput_next ((step_of_input hh hi).symm.trans h)⟩
  · rw [step_of_stuck hh] at h; cases h; exact .inl rfl

/-! ## What no step and no instruction changes -/

theorem Executes.params_eq {i : Instr} {s t : State} (h : Executes s i t) : t.params = s.params := by
  cases h with
  | beginTxn => simp
  | send => simp
  | receive n hh => exact (receiveBody_frame n s hh).params
  | endTxn => simp
  | transact n => simp
  | setTapEmpty | setTap | checksum | encode | packet => rfl

theorem Takes.params_eq {s t : State} (h : Takes s t) : t.params = s.params := by
  cases h with
  | executes i t h => exact h.params_eq
  | refuses | writes | busEnable | reset | otherConfigure => rfl

/-- Settles O54: an input taken keeps the parameters (`Takes.params_eq`). -/
theorem noStepChangesTheParameters : Obligations.NoStepChangesTheParameters := by
  intro s t h
  rcases step_next h with rfl | ⟨-, rest, ht⟩
  · rfl
  · exact ht.params_eq

/-- An instruction other than RECEIVE and TRANSACT writes `CKSUM` at most, and that only as SEND or ENCODE (R18). -/
theorem Executes.desc_eq {i : Instr} {s t : State} (h : Executes s i t) (hr : ∀ n, i ≠ .receive n)
    (ht : ∀ n, i ≠ .transact n) : t.desc = s.desc ∨
      ((i = .send ∨ i = .encode) ∧ t.desc = { s.desc with cksum := s.desc.checksum }) := by
  cases h with
  | beginTxn => exact .inl (by simp)
  | send => exact .inr ⟨.inl rfl, sendBody_desc s⟩
  | receive n => exact absurd rfl (hr n)
  | endTxn => exact .inl (by simp)
  | transact n => exact absurd rfl (ht n)
  | setTapEmpty | setTap | checksum | packet => exact .inl rfl
  | encode => exact .inr ⟨.inr rfl, rfl⟩

/-- An instruction other than BEGIN and TRANSACT keeps `SAVED_CFG` (R27). -/
theorem Executes.savedCfg_eq {i : Instr} {s t : State} (h : Executes s i t) (hb : i ≠ .beginTxn)
    (ht : ∀ n, i ≠ .transact n) : t.savedCfg = s.savedCfg := by
  cases h with
  | beginTxn => exact absurd rfl hb
  | send => simp
  | receive n hh => exact (receiveBody_frame n s hh).savedCfg
  | endTxn => simp
  | transact n => exact absurd rfl (ht n)
  | setTapEmpty | setTap | checksum | encode | packet => rfl

/-- Settles O56: `Executes.desc_eq` for the descriptor and `Executes.savedCfg_eq` for `SAVED_CFG`. -/
theorem descriptorAndSavedCfgAreWrittenByTheirCommandsOnly :
    Obligations.DescriptorAndSavedCfgAreWrittenByTheirCommandsOnly := by
  intro i s t ht h
  refine ⟨fun hr => ?_, fun hb => (exec_next h).savedCfg_eq hb ht⟩
  rcases (exec_next h).desc_eq hr ht with e | ⟨rfl | rfl, e⟩ <;> rw [e]
  · exact ⟨rfl, fun _ _ => rfl⟩
  · exact ⟨rfl, fun hs => absurd rfl hs⟩
  · exact ⟨rfl, fun _ he => absurd rfl he⟩

end Sys2Proof.Machine
end

section
/-! SUPPORT. The framer's invariant: what it takes in a state that is not stuck, and that every body and every input
keeps it (spec/10_state.md R22, R23, R26, R27, spec/41_engine.md R115, R126, spec/70_reset_and_hazards.md R208). -/

namespace Sys2Proof.Machine

/-! ## Ways to meet the invariant -/

/-- The registers the invariant speaks of, but for where the engine is stuck, are the same in both states. -/
structure SameControl (s t : State) : Prop where
  phase : t.phase = s.phase := by rfl
  savedValid : t.savedValid = s.savedValid := by rfl
  pollcnt : t.pollcnt = s.pollcnt := by rfl
  expCnt : t.expCnt = s.expCnt := by rfl
  dir : t.dir = s.dir := by rfl
  params : t.params = s.params := by rfl
  cfg : t.ch.cfg = s.ch.cfg := by rfl

theorem State.Inv.congr {s t : State} (h : s.Inv) (k : SameControl s t) (hh : t.hung = s.hung := by rfl) : t.Inv := by
  obtain ⟨hsaved, hpoll, hcnt, hline, hcfg, hflush, hread⟩ := h
  constructor <;> simpa only [k.phase, k.savedValid, k.pollcnt, k.expCnt, k.dir, k.params, k.cfg, hh]

theorem State.Inv.released {s : State} (h : s.Inv) (hh : s.hung = none) : s.dir = !s.params.dirTxLevel :=
  h.line_released.resolve_left (by simp [hh])

theorem State.Inv.saved_eq_false {s : State} (h : s.Inv) (hp : s.phase = .idle) : s.savedValid = false := by
  simpa [hp] using h.saved_iff_open

theorem State.Inv.saved_eq_true {s : State} (h : s.Inv) (hp : s.phase ≠ .idle) : s.savedValid = true :=
  h.saved_iff_open.mpr hp

/-- With no command running and no transaction open, nothing is asked of the channel. -/
theorem inv_of_idle {s : State} (hh : s.hung = none) (hp : s.phase = .idle) (hv : s.savedValid = false)
    (hpoll : s.pollcnt ≤ Config.pollMax) (hcnt : s.expCnt ≤ Config.countMax) (hdir : s.dir = !s.params.dirTxLevel) :
    s.Inv where
  saved_iff_open := by simp [hp, hv]
  pollcnt_bound := hpoll
  expCnt_bound := hcnt
  line_released := .inr hdir
  channel_in_proto := fun h => absurd hp h
  stuck_in_flush := by simp [hh]
  stuck_in_read := by simp [hh]

/-- With no command running and a transaction open, the configuration is saved and the channel is the protocol's. -/
theorem inv_of_open {s : State} (hh : s.hung = none) (hp : s.phase ≠ .idle) (hv : s.savedValid = true)
    (hpoll : s.pollcnt ≤ Config.pollMax) (hcnt : s.expCnt ≤ Config.countMax) (hdir : s.dir = !s.params.dirTxLevel)
    (hcfg : s.ch.cfg = Config.protoCfg s.params) : s.Inv where
  saved_iff_open := by simp [hp, hv]
  pollcnt_bound := hpoll
  expCnt_bound := hcnt
  line_released := .inr hdir
  channel_in_proto := fun _ => hcfg
  stuck_in_flush := by simp [hh]
  stuck_in_read := by simp [hh]

/-! ## BEGIN, SEND, END -/

theorem beginBody_inv {s : State} (h : s.Inv) (hh : s.hung = none) (hp : s.phase = .idle) : (beginBody s).2.Inv := by
  cases hb : s.busEn with
  | false => rw [beginBody_disabled s hb]; exact h
  | true =>
    cases hc : (moveAt s 2).configureOk with
    | true =>
      rw [beginBody_applied s hb hc]
      exact inv_of_open hh nofun rfl h.pollcnt_bound h.expCnt_bound (h.released hh) rfl
    | false =>
      rw [beginBody_failed s hb hc]
      exact inv_of_idle hh hp rfl h.pollcnt_bound h.expCnt_bound (h.released hh)

/-- SEND keeps the invariant: a flush that returns releases the line, one that does not is the stuck flush (R208). -/
theorem sendBody_inv {s : State} (h : s.Inv) (hh : s.hung = none) (hp : s.phase = .reserved) : (sendBody s).Inv := by
  have hopen : s.phase ≠ .idle := by simp [hp]
  have hv := h.saved_eq_true hopen
  have hcfg := h.channel_in_proto hopen
  cases hf : (moveAt s 1).flushReturns with
  | true =>
    rw [sendBody_returns s hh hf]
    exact inv_of_open hh nofun hv h.pollcnt_bound h.expCnt_bound rfl hcfg
  | false =>
    rw [sendBody_never s hf]
    exact {
      saved_iff_open := by simp [hv]
      pollcnt_bound := h.pollcnt_bound
      expCnt_bound := h.expCnt_bound
      line_released := .inl rfl
      channel_in_proto := fun _ => hcfg
      stuck_in_flush := fun _ => ⟨rfl, rfl⟩
      stuck_in_read := nofun }

theorem endBody_inv {s : State} (h : s.Inv) (hh : s.hung = none) : (endBody s).Inv :=
  inv_of_idle (by simp [hh]) (by simp) (by simp) (by simp [h.pollcnt_bound]) (by simp [h.expCnt_bound])
    (by simp [h.released hh])

/-! ## RECEIVE -/

/-- No command runs, or the running one waits in a raw read of the mode that has no bound (R126). -/
def State.FreeOrInRawRead (s : State) : Prop :=
  s.hung = none ∨ s.hung = some .rawRead ∧ s.params.rxByteMode = .rawUnbounded

theorem checksumStage_freeOrInRawRead (s : State) (h : s.hung = none) : (checksumStage s).FreeOrInRawRead := by
  rcases checksumStage_cases s h with ⟨-, hm, e⟩ | ⟨-, -, e⟩ | ⟨c, -, e⟩ <;> rw [e]
  · exact .inr ⟨rfl, hm⟩
  · exact .inl h
  · exact .inl h

theorem payloadStage_freeOrInRawRead (s : State) (h : s.hung = none) : (payloadStage s).FreeOrInRawRead := by
  rcases payloadStage_cases s h with ⟨-, e⟩ | ⟨-, -, hm, e⟩ | ⟨-, -, -, e⟩ | ⟨-, -, e⟩ <;> rw [e]
  · exact checksumStage_freeOrInRawRead s h
  · exact .inr ⟨rfl, hm⟩
  · exact .inl h
  · exact checksumStage_freeOrInRawRead _ h

theorem decodeResponse_freeOrInRawRead (s : State) (h : s.hung = none) : (decodeResponse s).FreeOrInRawRead := by
  rcases decodeResponse_cases s with ⟨-, e⟩ | ⟨-, e⟩ <;> rw [e]
  · exact .inl h
  · exact payloadStage_freeOrInRawRead _ h

theorem headerStage_freeOrInRawRead (s : State) (h : s.hung = none) : (headerStage s).FreeOrInRawRead := by
  rcases headerStage_cases s h with ⟨-, hm, e⟩ | ⟨-, -, e⟩ | ⟨-, e⟩ <;> rw [e]
  · exact .inr ⟨rfl, hm⟩
  · exact .inl h
  · exact decodeResponse_freeOrInRawRead _ h

theorem headerStage_sameControl (s : State) (h : s.hung = none) : SameControl s (headerStage s) := by
  obtain ⟨hphase, hpoll, -, hcnt⟩ := headerStage_latches s h
  have frame := headerStage_frame s h
  exact ⟨hphase, frame.savedValid, hpoll, hcnt, frame.dir, frame.params, frame.cfg⟩

/-- The invariant allows a raw read that waits for ever in phase `RECEIVING` (R126). -/
theorem State.Inv.of_receiving {s t : State} (h : s.Inv) (hh : s.hung = none) (hp : s.phase = .receiving)
    (k : SameControl s t) (hfree : t.FreeOrInRawRead) : t.Inv := by
  rcases hfree with hfree | ⟨hread, hmode⟩
  · exact h.congr k (hfree.trans hh.symm)
  · exact {
      saved_iff_open := by rw [k.savedValid, k.phase]; exact h.saved_iff_open
      pollcnt_bound := k.pollcnt ▸ h.pollcnt_bound
      expCnt_bound := k.expCnt ▸ h.expCnt_bound
      line_released := .inr (by rw [k.dir, k.params]; exact h.released hh)
      channel_in_proto := by rw [k.phase, k.cfg, k.params]; exact h.channel_in_proto
      stuck_in_flush := by simp [hread]
      stuck_in_read := fun _ => ⟨k.phase.trans hp, hmode⟩ }

/-- The latches and the poll keep the invariant: `POLLCNT` starts at 0 and counts at most `POLL_MAX` sleeps (R22). -/
theorem poll_latchReceive_inv {s : State} {n : Nat} (h : s.Inv) (hh : s.hung = none) (hp : s.phase = .sending)
    (hn : n ≤ Config.countMax) : (poll Config.pollMax (latchReceive n s)).2.Inv := by
  have hopen : s.phase ≠ .idle := by simp [hp]
  have hpoll := poll_pollcnt_le Config.pollMax (latchReceive n s)
  rw [latchReceive_pollcnt, Nat.zero_add] at hpoll
  exact inv_of_open (by simp [hh]) (by simp) (by simp [h.saved_eq_true hopen]) hpoll (by simpa using hn)
    (by simp [h.released hh]) (by simp [h.channel_in_proto hopen])

theorem receiveBody_inv {s : State} {n : Nat} (h : s.Inv) (hh : s.hung = none) (hp : s.phase = .sending)
    (hn : n ≤ Config.countMax) : (receiveBody n s).Inv := by
  have hpolled := poll_latchReceive_inv h hh hp hn
  have hfree : (poll Config.pollMax (latchReceive n s)).2.hung = none := by simp [hh]
  rcases receiveBody_cases n s with ⟨-, e⟩ | ⟨-, -, e⟩ | ⟨-, -, e⟩ <;> rw [e]
  · exact h.congr {}
  · exact hpolled.congr {}
  · exact hpolled.of_receiving hfree (by simp) (headerStage_sameControl _ hfree)
      (headerStage_freeOrInRawRead _ hfree)

/-! ## TRANSACT, one instruction, one input -/

/-- TRANSACT keeps the invariant, because each of its commands starts where the one before it ended (R129). -/
theorem transactBody_inv {s : State} {n : Nat} (h : s.Inv) (hh : s.hung = none) (hp : s.phase = .idle)
    (hn : n ≤ Config.countMax) : (transactBody n s).Inv := by
  have hbegun := beginBody_inv h hh hp
  have hsent (hok : (beginBody s).1 = Flag.ok) : (sendBody (beginBody s).2).Inv :=
    sendBody_inv hbegun (by simp [hh]) (beginBody_phase_of_ok s hok)
  have hreceived (hok : (beginBody s).1 = Flag.ok) (hs : (sendBody (beginBody s).2).hung = none) :
      (receiveBody n (sendBody (beginBody s).2)).Inv :=
    receiveBody_inv (hsent hok) hs (by simp) hn
  rcases transactBody_cases n s with ⟨-, e⟩ | ⟨hok, -, e⟩ | ⟨hok, hs, -, e⟩ | ⟨hok, hs, hr, e⟩ <;> rw [e]
  · exact hbegun.congr {}
  · exact hsent hok
  · exact hreceived hok hs
  · exact endBody_inv (hreceived hok hs) hr

theorem returnStatus_inv {s : State} (h : s.Inv) : (returnStatus s).Inv := by
  rcases returnStatus_eq s with e | e <;> rw [e]
  · exact h
  · exact h.congr {}

theorem Executes.keeps_inv {i : Instr} {s t : State} (e : Executes s i t) (h : s.Inv) : t.Inv := by
  cases e with
  | beginTxn hh hp => exact (beginBody_inv h hh hp).congr {}
  | send hh hp => exact sendBody_inv h hh hp
  | receive n hh hp hn => exact receiveBody_inv h hh hp hn
  | endTxn hh => exact endBody_inv h hh
  | transact n hh hp hw hn => exact returnStatus_inv (transactBody_inv h hh hp hn)
  | setTapEmpty | setTap | checksum | encode | packet => exact h.congr {}

/-- Reset meets the invariant from any state that is not stuck (R190). -/
theorem resetEvent_inv {s : State} (hh : s.hung = none) : (resetEvent s).Inv :=
  inv_of_idle hh rfl rfl (Nat.zero_le _) (Nat.le_of_lt_succ (Nat.mod_lt _ (Nat.succ_pos _))) rfl

theorem Takes.keeps_inv {s t : State} (k : Takes s t) (h : s.Inv) (hh : s.hung = none) : t.Inv := by
  cases k with
  | executes i t e => exact e.keeps_inv h
  | refuses | writes | busEnable => exact h.congr {}
  | reset => exact resetEvent_inv hh
  | otherConfigure c hp =>
    exact inv_of_idle hh hp (h.saved_eq_false hp) h.pollcnt_bound h.expCnt_bound (h.released hh)

/-- Settles O52: a step changes nothing, or takes an input, which keeps the invariant (`Takes.keeps_inv`). -/
theorem everyStepKeepsTheInvariant : Obligations.EveryStepKeepsTheInvariant := by
  intro s t h hstep
  rcases step_next hstep with rfl | ⟨hh, rest, k⟩
  · exact h
  · exact k.keeps_inv (h.congr {}) hh

/-- Settles O53: at reset no transaction is open and the line is released (R32). -/
theorem resetMeetsTheInvariant : Obligations.ResetMeetsTheInvariant :=
  inv_of_idle rfl rfl rfl (Nat.zero_le _) (Nat.zero_le _) rfl

end Sys2Proof.Machine
end

section
/-! SUPPORT. The inputs that are not commands, the reset state, and the packets on the line, as whole next states. -/

namespace Sys2Proof.Machine

/-- Settles O8: the reset state is written out in the model. -/
theorem resetStateHasTheSpecifiedValues : Obligations.ResetStateHasTheSpecifiedValues :=
  ⟨rfl, rfl, rfl, rfl, rfl, rfl⟩

/-! ## Host writes -/

theorem step_of_write {s : State} {r : DescReg} {v : Byte} {rest : List Input} (hh : s.hung = none)
    (hi : s.inputs = .write r v :: rest) : step s = hostWrite r v { s with inputs := rest } :=
  step_of_input hh hi

theorem hostWrite_data (i : Nat) (v : Byte) (s : State) : hostWrite (.data i) v s =
    if i < Config.dataCap then .next { s with desc := { s.desc with data := writeBuf s.desc.data i v } }
    else .fault .noSuchElement := rfl

theorem hostWrite_idlist (i : Nat) (v : Byte) (s : State) : hostWrite (.idlist i) v s =
    if i < Config.idlistCap then .next { s with desc := { s.desc with idlist := writeBuf s.desc.idlist i v } }
    else .fault .noSuchElement := rfl

/-- Settles O6: `hostWrite_data` and `hostWrite_idlist`, with what a read gives after `writeBuf`. -/
theorem hostBufferWriteChangesOneElement : Obligations.HostBufferWriteChangesOneElement := by
  intro s inputs i v hh
  constructor <;> intro hi <;> constructor <;> intro hbound <;> rw [step_of_write hh hi]
  · exact ⟨writeBuf s.desc.data i v, by rw [hostWrite_data, if_pos hbound],
      readBuf_writeBuf_self _ i v hbound, fun j hj => readBuf_writeBuf_other _ i j v hj⟩
  · rw [hostWrite_data, if_neg (Nat.not_lt.mpr hbound)]
  · exact ⟨writeBuf s.desc.idlist i v, by rw [hostWrite_idlist, if_pos hbound],
      readBuf_writeBuf_self _ i v hbound, fun j hj => readBuf_writeBuf_other _ i j v hj⟩
  · rw [hostWrite_idlist, if_neg (Nat.not_lt.mpr hbound)]

/-- Settles O7: for each one-byte register `hostWrite` has its own equation, so `step_of_write` is the statement. -/
theorem hostRegisterWriteChangesOneRegister : Obligations.HostRegisterWriteChangesOneRegister :=
  fun _ _ _ hh => ⟨step_of_write hh, step_of_write hh, step_of_write hh, step_of_write hh, step_of_write hh,
    step_of_write hh, step_of_write hh, step_of_write hh⟩

/-! ## The platform and the other user -/

/-- Settles O45: the two cases of `otherConfigure_cases`. -/
theorem platformAndOtherUserChangeOneThing : Obligations.PlatformAndOtherUserChangeOneThing := by
  intro s inputs hh
  refine ⟨fun b hi => step_of_input hh hi, fun c hi => ?_⟩
  have hstep : step s = otherConfigure c { s with inputs := inputs } := step_of_input hh hi
  rw [hstep]
  rcases otherConfigure_cases c { s with inputs := inputs } with ⟨hp, e⟩ | ⟨hp, e⟩
  · exact ⟨fun _ => e, fun h => absurd hp h⟩
  · exact ⟨fun h => absurd h hp, fun _ => e⟩

/-! ## Packets on the line -/

theorem groupBytes_eq_flatten (groups : List (Byte × List Byte)) :
    groupBytes groups = (groups.map fun g => g.1 :: g.2).flatten := List.flatMap_def

/-- The layout of a sync write, field by field (R60, R66). -/
theorem packetBytes_sync (id len instr pcnt ck : Byte) (a : Option Byte) (groups : List (Byte × List Byte)) :
    packetBytes id len instr (a.toList ++ pcnt :: groupBytes groups) ck =
      [0xFF, 0xFF, id, len, instr] ++ a.toList ++ [pcnt] ++ (groups.map fun g => g.1 :: g.2).flatten ++ [ck] := by
  simp [packetBytes, groupBytes_eq_flatten, Config.hdr0, Config.hdr1]

/-- A sync write on the line arrives as its bytes (R31, R66). -/
theorem exec_reqSync (id len instr pcnt ck : Byte) (a : Option Byte) (groups : List (Byte × List Byte)) (s : State) :
    exec (.reqSync id len instr a pcnt groups ck) s =
      .next (arrive (packetBytes id len instr (a.toList ++ pcnt :: groupBytes groups) ck) s) := rfl

/-- Settles O51: a packet arrives as `packetBytes` lays it out; the sync write's groups are regrouped by
`packetBytes_sync`. -/
theorem packetsOnTheLineArriveInTheReceiveStream : Obligations.PacketsOnTheLineArriveInTheReceiveStream := by
  intro s id len instr addr pcnt ck data a groups
  refine ⟨rfl, rfl, rfl, rfl, ?_, rfl⟩
  rw [exec_reqSync, packetBytes_sync]
  rfl

end Sys2Proof.Machine
end

section
/-! SUPPORT. The packet and checksum of a well-formed request are the bytes that the spec's indexed loops give
(spec/40_codec.md R90, R93), and what SEND does with them. -/

namespace Sys2Proof.Machine

/-- Reading a buffer index by index gives its slice, when the slice lies inside the buffer. -/
theorem map_readBuf_range {n : Nat} (v : Vector Byte n) (start count : Nat) (h : start + count ≤ n) :
    ((List.range count).map fun j => readBuf v (start + j)) = (v.toList.drop start).take count := by
  apply List.ext_getElem
  · simp; omega
  · intro j hj _
    have hjc : j < count := by simpa using hj
    simp [readBuf_of_lt v (start + j) (by omega)]

theorem byteSum_map {α : Type} (f : α → Byte) (l : List α) :
    byteSum (l.map f) = (l.map fun a => (f a).toNat).sum := by
  simp [byteSum, Function.comp_def]

theorem byteSum_flatMap {α : Type} (f : α → List Byte) (l : List α) :
    byteSum (l.flatMap f) = (l.map fun a => byteSum (f a)).sum := by
  induction l with
  | nil => rfl
  | cons a l ih => simp [ih]

/-! ## The fields of the packet -/

/-- The spec asks for the sentinel where the model asks for presence (R65). -/
theorem ite_present {α : Type} (b : Byte) (x y : α) :
    (if present b then x else y) = if b = 255 then y else x := by
  by_cases hb : b = 255
  · subst hb; rfl
  · have hpresent : present b = true := decide_eq_true hb
    rw [if_neg hb, if_pos hpresent]

theorem payloadCount_eq (d : Desc) : Spec.payloadCount d = d.len.toNat - 2 - d.nPresent := by
  have count (b : Byte) : (present b).toNat = if b = 255 then 0 else 1 := by
    rw [← ite_present]
    cases present b <;> rfl
  rw [Spec.payloadCount, Desc.nPresent, count, count, Nat.sub_add_eq]

theorem optionals_eq (d : Desc) : d.optionals =
    (if d.addr = 255 then [] else [d.addr]) ++ (if d.pcnt = 255 then [] else [d.pcnt]) := by
  rw [Desc.optionals, ite_present, ite_present]

/-- The flat payload always lies in `DATA`, because `LEN` is a byte (R65). -/
theorem flatPayload_eq (d : Desc) :
    d.flatPayload = (List.range (Spec.payloadCount d)).map fun i => readBuf d.data i := by
  have hfits : 0 + Spec.payloadCount d ≤ Config.dataCap := by
    have := d.len.isLt
    simp only [payloadCount_eq, Config.dataCap]
    omega
  simpa [Desc.flatPayload, payloadCount_eq] using (map_readBuf_range d.data 0 _ hfits).symm

/-- The groups of a sync write lie in `DATA` when all of them together do (R66). -/
theorem groupBytes_groups_eq (d : Desc) (hfits : d.idn.toNat * d.pcnt.toNat ≤ Config.dataCap) :
    groupBytes d.groups = (List.range d.idn.toNat).flatMap fun g =>
      readBuf d.idlist g :: (List.range d.pcnt.toNat).map fun j => readBuf d.data (g * d.pcnt.toNat + j) := by
  rw [groupBytes, Desc.groups, List.flatMap_map]
  refine List.flatMap_congr fun g hg => ?_
  have hgroup : g * d.pcnt.toNat + d.pcnt.toNat ≤ Config.dataCap :=
    calc g * d.pcnt.toNat + d.pcnt.toNat = (g + 1) * d.pcnt.toNat := (Nat.succ_mul _ _).symm
      _ ≤ d.idn.toNat * d.pcnt.toNat := Nat.mul_le_mul_right _ (List.mem_range.mp hg)
      _ ≤ Config.dataCap := hfits
  rw [map_readBuf_range _ _ _ hgroup]
  rfl

/-- The groups of a well-formed request lie in `DATA`; a flat one has none (R71). -/
theorem groups_fit_of_wf {d : Desc} (h : d.wf = true) : d.idn.toNat * d.pcnt.toNat ≤ Config.dataCap := by
  simp only [Desc.wf, Bool.and_eq_true, Bool.or_eq_true, beq_iff_eq, decide_eq_true_eq] at h
  obtain ⟨-, hflat | ⟨-, hfits⟩⟩ := h
  · simp [hflat]
  · exact hfits

/-! ## The checksum and the packet -/

theorem byteSum_optional (b : Byte) : byteSum (if b = 255 then [] else [b]) = if b = 255 then 0 else b.toNat := by
  split <;> simp

theorem checksumSum_eq (d : Desc) (hfits : d.idn.toNat * d.pcnt.toNat ≤ Config.dataCap) :
    Spec.checksumSum d = byteSum d.covered := by
  simp only [Spec.checksumSum, Desc.covered, Desc.between, optionals_eq, Desc.payload, flatPayload_eq,
    groupBytes_groups_eq d hfits, byteSum_append, byteSum_cons, byteSum_nil, byteSum_optional]
  by_cases hflat : d.idn = 0
  · simp only [if_pos hflat, byteSum_map]
    omega
  · simp only [if_neg hflat, byteSum_flatMap, byteSum_cons, byteSum_map]
    omega

/-- The checksum byte is that of R90's pseudocode. -/
theorem checksum_eq (d : Desc) (hfits : d.idn.toNat * d.pcnt.toNat ≤ Config.dataCap) :
    d.checksum = Spec.checksumByte d := by
  rw [Spec.checksumByte, checksumSum_eq d hfits, ← BitVec.toNat_inj, Desc.checksum, complementByte_toNat,
    BitVec.toNat_ofNat]
  omega

/-- The packet is that of R93's pseudocode. -/
theorem packet_eq (d : Desc) (hfits : d.idn.toNat * d.pcnt.toNat ≤ Config.dataCap) :
    d.packet = Spec.encodeBytes d := by
  simp only [Desc.packet, packetBytes, Spec.encodeBytes, checksum_eq d hfits, Desc.between, optionals_eq, Desc.payload,
    flatPayload_eq, groupBytes_groups_eq d hfits]
  simp [Config.hdr0, Config.hdr1]

theorem packet_of_wf {d : Desc} (h : d.wf = true) : d.packet = Spec.encodeBytes d :=
  packet_eq d (groups_fit_of_wf h)

/-! ## SEND -/

/-- SEND runs on a well-formed descriptor in phase `RESERVED` (R111, R116). -/
theorem exec_send {s : State} (hready : s.ready [.reserved]) (hw : s.desc.wf = true) :
    exec .send s = .next (sendBody s) := by
  obtain ⟨hh, hp⟩ := hready
  change acceptIn [.reserved] s (require s.desc.wf .notWellFormed (.next (sendBody s))) = _
  rw [acceptIn_of _ hh hp, hw, require_true]

/-- Settles O24: `sendBody_never` gives the whole state, and its stuck flush stops every later step. -/
theorem sendOnAChannelThatNeverDrainsIsStuck : Obligations.SendOnAChannelThatNeverDrainsIsStuck := by
  intro s hready hw hflush
  have hsent := sendBody_never s hflush
  rw [packet_of_wf hw] at hsent
  have hstuck : (sendBody s).hung ≠ none := by simp [hsent]
  refine ⟨sendBody s, exec_send hready hw, ?_, ?_, ?_, ?_, ?_, step_of_stuck hstuck⟩ <;> simp [hsent]

end Sys2Proof.Machine
end

section
/-! SUPPORT. The event history (spec/20_memory.md R50, R51): what each body of the engine appends to it, that it and the
record of refusals only grow, and the order of a transaction's events. -/

namespace Sys2Proof.Machine

/-! ## The events of RECEIVE -/

/-- The history of `t` is that of `s` with events of a RECEIVE appended (R51). -/
def AppendsReceiveEvents (s t : State) : Prop :=
  ∃ new, t.events = s.events ++ new ∧ ∀ e ∈ new, Spec.isReceiveEvent e = true

theorem AppendsReceiveEvents.of_eq {s t : State} (h : t.events = s.events) : AppendsReceiveEvents s t :=
  ⟨[], by simp [h], by simp⟩

theorem AppendsReceiveEvents.trans {s t u : State} (h : AppendsReceiveEvents s t) (k : AppendsReceiveEvents t u) :
    AppendsReceiveEvents s u := by
  obtain ⟨first, hfirst, hreceive⟩ := h
  obtain ⟨second, hsecond, kreceive⟩ := k
  exact ⟨first ++ second, by rw [hsecond, hfirst, List.append_assoc],
    List.forall_mem_append.mpr ⟨hreceive, kreceive⟩⟩

/-- A read leaves its own event and its delivery to the tap (R44, R142). -/
theorem afterRead_appends (n : Nat) (s : State) : AppendsReceiveEvents s (afterRead n s) := by
  refine ⟨.rx n (fetched n s).length (fetched n s) :: deliveries s (fetched n s), rfl, ?_⟩
  unfold deliveries
  split <;> simp [Spec.isReceiveEvent, Event.isRx, Event.isTap]

/-- The poll leaves askings and sleeps (R45, R48). -/
theorem poll_appends (fuel : Nat) (s : State) : AppendsReceiveEvents s (poll fuel s).2 := by
  obtain ⟨answers, last, hevents, -⟩ := poll_record fuel s
  refine ⟨answers.flatMap (fun a => [Event.avail a, .sleep Config.pollUs]) ++ [.avail last],
    by rw [hevents, List.append_assoc], ?_⟩
  intro e he
  simp only [List.mem_append, List.mem_flatMap, List.mem_cons, List.not_mem_nil, or_false] at he
  obtain ⟨a, -, rfl | rfl⟩ | rfl := he <;> rfl

theorem checksumStage_appends (s : State) (h : s.hung = none) : AppendsReceiveEvents s (checksumStage s) := by
  rcases checksumStage_cases s h with ⟨-, -, e⟩ | ⟨-, -, e⟩ | ⟨c, -, e⟩ <;> rw [e]
  · exact .of_eq rfl
  · exact afterRead_appends 1 s
  · exact afterRead_appends 1 s

theorem payloadStage_appends (s : State) (h : s.hung = none) : AppendsReceiveEvents s (payloadStage s) := by
  rcases payloadStage_cases s h with ⟨-, e⟩ | ⟨-, -, -, e⟩ | ⟨-, -, -, e⟩ | ⟨-, -, e⟩ <;> rw [e]
  · exact checksumStage_appends s h
  · exact .of_eq rfl
  · exact afterRead_appends s.expCnt s
  · have hread : AppendsReceiveEvents s (setData (fetched s.expCnt s) (afterRead s.expCnt s)) :=
      afterRead_appends s.expCnt s
    exact hread.trans (checksumStage_appends _ h)

theorem decodeResponse_appends (s : State) (h : s.hung = none) : AppendsReceiveEvents s (decodeResponse s) := by
  rcases decodeResponse_cases s with ⟨-, e⟩ | ⟨-, e⟩ <;> rw [e]
  · exact .of_eq rfl
  · exact payloadStage_appends (captureHeader s) h

theorem headerStage_appends (s : State) (h : s.hung = none) : AppendsReceiveEvents s (headerStage s) := by
  rcases headerStage_cases s h with ⟨-, -, e⟩ | ⟨-, -, e⟩ | ⟨-, e⟩ <;> rw [e]
  · exact .of_eq rfl
  · exact afterRead_appends 5 s
  · exact (afterRead_appends 5 s).trans
      (decodeResponse_appends { afterRead 5 s with hdr := overwrite s.hdr (fetched 5 s) } h)

theorem receiveBody_of_broadcast (n : Nat) {s : State} (h : s.desc.id = 254) :
    receiveBody n s = setStatus Flag.ok s :=
  if_pos h

theorem receiveBody_appends (n : Nat) (s : State) (h : s.hung = none) : AppendsReceiveEvents s (receiveBody n s) := by
  have hpoll : AppendsReceiveEvents s (poll Config.pollMax (latchReceive n s)).2 := poll_appends _ (latchReceive n s)
  rcases receiveBody_cases n s with ⟨-, e⟩ | ⟨-, -, e⟩ | ⟨-, -, e⟩ <;> rw [e]
  · exact .of_eq rfl
  · exact hpoll
  · exact hpoll.trans (headerStage_appends _ (by simp [h]))

/-! ## The events of SEND, END and TRANSACT -/

/-- A SEND that returns transmitted the packet between the two settings of the line (R116). -/
theorem sendBody_events {s : State} (hh : s.hung = none) (hr : (sendBody s).hung = none) :
    (sendBody s).events = s.events ++
      [.dir s.params.dirTxLevel, .tx s.desc.packet, .flush, .dir (!s.params.dirTxLevel)] := by
  cases hf : (moveAt s 1).flushReturns with
  | true => rw [sendBody_returns s hh hf]
  | false => rw [sendBody_never s hf] at hr; cases hr

@[simp] theorem releaseLine_savedValid (s : State) : (releaseLine s).savedValid = s.savedValid := by
  unfold releaseLine; split <;> rfl
@[simp] theorem sendBody_savedValid (s : State) : (sendBody s).savedValid = s.savedValid := by
  simp [sendBody]

/-- END causes the one event of the restoring call, and none with nothing saved (R127). -/
theorem endBody_events (s : State) : (endBody s).events = s.events ++
    if s.savedValid then [.cfgSet s.savedCfg (nextMove s).configureOk] else [] := by
  unfold endBody
  split <;> simp

@[simp] theorem returnStatus_hung (s : State) : (returnStatus s).hung = s.hung := by
  rcases returnStatus_eq s with e | e <;> simp [e]
@[simp] theorem returnStatus_events (s : State) : (returnStatus s).events = s.events := by
  rcases returnStatus_eq s with e | e <;> simp [e]
@[simp] theorem returnStatus_refusals (s : State) : (returnStatus s).refusals = s.refusals := by
  rcases returnStatus_eq s with e | e <;> simp [e]

/-- An accepted TRANSACT ran its body on a well-formed request (R71, R111, R129). -/
theorem exec_transact_next {n : Nat} {s t : State} (h : exec (.transact n) s = .next t) :
    s.hung = none ∧ s.desc.wf = true ∧ t = returnStatus (transactBody n s) := by
  obtain ⟨hh, -, hrun⟩ := acceptIn_next h
  obtain ⟨hw, hrun⟩ := require_next hrun
  obtain ⟨-, e⟩ := require_next hrun
  cases e
  exact ⟨hh, hw, rfl⟩

/-- A TRANSACT whose BEGIN answers OK and that is not stuck went through all four commands (R129). -/
theorem transactBody_of_returns {n : Nat} {s : State} (hb : (beginBody s).1 = Flag.ok)
    (h : (transactBody n s).hung = none) :
    (sendBody (beginBody s).2).hung = none ∧
      transactBody n s = endBody (receiveBody n (sendBody (beginBody s).2)) := by
  rcases transactBody_cases n s with ⟨hexit, -⟩ | ⟨-, hs, e⟩ | ⟨-, -, hr, e⟩ | ⟨-, hs, -, e⟩
  · exact absurd hb hexit
  · exact absurd (e ▸ h) hs
  · exact absurd (e ▸ h) hr
  · exact ⟨hs, e⟩

/-- What RECEIVE and END append in a transaction with a saved configuration (R51 items 4 and 6). -/
theorem endBody_receiveBody_events (n : Nat) {s : State} (hh : s.hung = none) (hv : s.savedValid = true) :
    ∃ (middle : List Event) (ok : Bool),
      (endBody (receiveBody n s)).events = s.events ++ (middle ++ [.cfgSet s.savedCfg ok]) ∧
      (∀ e ∈ middle, Spec.isReceiveEvent e = true) ∧ (s.desc.id = 254 → middle = []) := by
  have frame := receiveBody_frame n s hh
  obtain ⟨middle, hmiddle, hreceive⟩ := receiveBody_appends n s hh
  refine ⟨middle, (nextMove (receiveBody n s)).configureOk, ?_, hreceive, fun hid => ?_⟩
  · rw [endBody_events, frame.savedValid, frame.savedCfg, hmiddle, hv, if_pos rfl, List.append_assoc]
  · simpa [receiveBody_of_broadcast n hid] using hmiddle

/-- Settles O41: the events of `beginBody_applied`, `sendBody_events` and `endBody_receiveBody_events` in a row. -/
theorem transactionEventsComeInTheGuaranteedOrder : Obligations.TransactionEventsComeInTheGuaranteedOrder := by
  intro s t n h ht hbus hcfg
  obtain ⟨hh, hw, rfl⟩ := exec_transact_next h
  rw [returnStatus_hung] at ht
  have hbegin := beginBody_applied s hbus hcfg
  obtain ⟨hsent, hbody⟩ := transactBody_of_returns (by rw [hbegin]) ht
  obtain ⟨middle, ok, htail, hreceive, hbroadcast⟩ :=
    endBody_receiveBody_events n hsent (by simp [hbegin])
  refine ⟨middle, ok, ?_, hreceive, fun hid => hbroadcast (by simpa using hid)⟩
  rw [returnStatus_events, hbody, htail, sendBody_events (by simp [hh]) hsent]
  simp [hbegin, packet_of_wf hw]

/-! ## The history and the refusals only grow -/

theorem AppendsReceiveEvents.events_prefix {s t : State} (h : AppendsReceiveEvents s t) : s.events <+: t.events := by
  obtain ⟨new, hnew, -⟩ := h
  exact ⟨new, hnew.symm⟩

theorem beginBody_events_prefix (s : State) : s.events <+: (beginBody s).2.events := by
  cases hb : s.busEn with
  | false => rw [beginBody_disabled s hb]
  | true =>
    cases hc : (moveAt s 2).configureOk with
    | true => rw [beginBody_applied s hb hc]; exact List.prefix_append _ _
    | false => rw [beginBody_failed s hb hc]; exact List.prefix_append _ _

theorem sendBody_events_prefix (s : State) (hh : s.hung = none) : s.events <+: (sendBody s).events := by
  cases hf : (moveAt s 1).flushReturns with
  | true => rw [sendBody_returns s hh hf]; exact List.prefix_append _ _
  | false => rw [sendBody_never s hf]; exact List.prefix_append _ _

theorem endBody_events_prefix (s : State) : s.events <+: (endBody s).events :=
  endBody_events s ▸ List.prefix_append _ _

theorem transactBody_events_prefix (n : Nat) (s : State) (hh : s.hung = none) :
    s.events <+: (transactBody n s).events := by
  have hbegun := beginBody_events_prefix s
  have hsent := hbegun.trans (sendBody_events_prefix (beginBody s).2 (by simp [hh]))
  have hreceived (hs : (sendBody (beginBody s).2).hung = none) :
      s.events <+: (receiveBody n (sendBody (beginBody s).2)).events :=
    hsent.trans (receiveBody_appends n _ hs).events_prefix
  rcases transactBody_cases n s with ⟨-, e⟩ | ⟨-, -, e⟩ | ⟨-, hs, -, e⟩ | ⟨-, hs, -, e⟩ <;> rw [e]
  · exact hbegun
  · exact hsent
  · exact hreceived hs
  · exact (hreceived hs).trans (endBody_events_prefix _)

@[simp] theorem beginBody_refusals (s : State) : (beginBody s).2.refusals = s.refusals := by
  unfold beginBody; dsimp only; split_ifs <;> simp
@[simp] theorem releaseLine_refusals (s : State) : (releaseLine s).refusals = s.refusals := by
  unfold releaseLine; split <;> rfl
@[simp] theorem sendBody_refusals (s : State) : (sendBody s).refusals = s.refusals := by
  simp [sendBody]
@[simp] theorem endBody_refusals (s : State) : (endBody s).refusals = s.refusals := by
  unfold endBody; dsimp only; split <;> simp
@[simp] theorem transactBody_refusals (n : Nat) (s : State) : (transactBody n s).refusals = s.refusals := by
  rcases transactBody_cases n s with ⟨-, e⟩ | ⟨-, -, e⟩ | ⟨-, hs, -, e⟩ | ⟨-, hs, -, e⟩
  · simp [e]
  · simp [e]
  · simp [e, (receiveBody_frame n _ hs).refusals]
  · simp [e, (receiveBody_frame n _ hs).refusals]

theorem Executes.events_prefix {i : Instr} {s t : State} (h : Executes s i t) : s.events <+: t.events := by
  cases h with
  | beginTxn => exact beginBody_events_prefix s
  | send hh => exact sendBody_events_prefix s hh
  | receive n hh => exact (receiveBody_appends n s hh).events_prefix
  | endTxn => exact endBody_events_prefix s
  | transact n hh => rw [returnStatus_events]; exact transactBody_events_prefix n s hh
  | setTapEmpty | setTap | checksum | encode | packet => exact List.prefix_rfl

/-- No instruction writes the record of refusals: `afterCommand` does, when one is refused (R111; log 13). -/
theorem Executes.refusals_eq {i : Instr} {s t : State} (h : Executes s i t) : t.refusals = s.refusals := by
  cases h with
  | beginTxn => simp
  | send => simp
  | receive n hh => exact (receiveBody_frame n s hh).refusals
  | endTxn => simp
  | transact n => simp
  | setTapEmpty | setTap | checksum | encode | packet => rfl

theorem Takes.events_prefix {s t : State} (h : Takes s t) : s.events <+: t.events := by
  cases h with
  | executes i t h => exact h.events_prefix
  | reset => exact List.prefix_append _ _
  | refuses | writes | busEnable | otherConfigure => exact List.prefix_rfl

theorem Takes.refusals_prefix {s t : State} (h : Takes s t) : s.refusals <+: t.refusals := by
  cases h with
  | executes i t h => rw [h.refusals_eq]
  | refuses r => exact List.prefix_append _ _
  | writes | busEnable | reset | otherConfigure => exact List.prefix_rfl

/-- Settles O55: a step changes nothing, or takes an input (`Takes.events_prefix`, `Takes.refusals_prefix`). -/
theorem historyOnlyGrows : Obligations.HistoryOnlyGrows := by
  intro s t h
  rcases step_next h with rfl | ⟨-, rest, k⟩
  · exact ⟨⟨[], by simp⟩, ⟨[], by simp⟩⟩
  · obtain ⟨events, hevents⟩ := k.events_prefix
    obtain ⟨refusals, hrefusals⟩ := k.refusals_prefix
    exact ⟨⟨events, hevents.symm⟩, ⟨refusals, hrefusals.symm⟩⟩

end Sys2Proof.Machine
end

section
/-! SUPPORT. The decoder reads back what the encoder lays out: the operands of the commands, the parts of a packet, and
the packet forms (spec/30_encoding.md R60 to R66, R69, R70; logs 1 and 2). -/

namespace Sys2Proof

/-! ## Operands of commands -/

theorem toNat_ofNat_of_le_countMax {n : Nat} (h : n ≤ Config.countMax) : (BitVec.ofNat 8 n).toNat = n := by
  rw [BitVec.toNat_ofNat]
  exact Nat.mod_eq_of_lt (Nat.lt_of_le_of_lt h (by decide))

theorem decodeCount_ofNat (mk : Nat → Instr) {n : Nat} (h : n ≤ Config.countMax) (rest : List Byte) :
    decodeCount mk (BitVec.ofNat 8 n :: rest) = .ok (mk n, rest) := by
  rw [decodeCount, toNat_ofNat_of_le_countMax h]

theorem fromLe32_le32 {n : Nat} (h : n < 2 ^ 32) :
    fromLe32 (BitVec.ofNat 8 n) (BitVec.ofNat 8 (n / 2 ^ 8)) (BitVec.ofNat 8 (n / 2 ^ 16))
      (BitVec.ofNat 8 (n / 2 ^ 24)) = n := by
  simp only [fromLe32, BitVec.toNat_ofNat]
  omega

theorem tapFnOfCode_code (fn : TapFn) : tapFnOfCode fn.code = fn := by
  cases fn <;> rfl

theorem decodeSetTap_le32 {fn : TapFn} {ctx : TapCtx} (hf : fn.code < 2 ^ 32) (hc : ctx.token < 2 ^ 32)
    (rest : List Byte) : decodeSetTap (le32 fn.code ++ le32 ctx.token ++ rest) = .ok (.setTap fn ctx, rest) := by
  simp only [le32, List.cons_append, List.nil_append, decodeSetTap]
  rw [fromLe32_le32 hf, fromLe32_le32 hc, tapFnOfCode_code]

/-- The five header bytes of a DECODE, one by one. -/
theorem toList_header (hdr : Vector Byte Config.hdrLen) :
    hdr.toList = [hdr[0], hdr[1], hdr[2], hdr[3], hdr[4]] := by
  apply List.ext_getElem
  · simp
  · intro i hi _
    have : i < 5 := by simpa using hi
    interval_cases i <;> simp

theorem header_eq (hdr : Vector Byte Config.hdrLen) : #v[hdr[0], hdr[1], hdr[2], hdr[3], hdr[4]] = hdr :=
  Vector.toList_inj.mp (toList_header hdr).symm

theorem decodeDecode_ofNat (hdr : Vector Byte Config.hdrLen) (id : Byte) {n : Nat} (h : n ≤ Config.countMax)
    (rest : List Byte) :
    decodeDecode (hdr.toList ++ [id, BitVec.ofNat 8 n] ++ rest) = .ok (.decode hdr id n, rest) := by
  simp only [toList_header, List.cons_append, List.nil_append, decodeDecode]
  rw [header_eq, toNat_ofNat_of_le_countMax h]

/-! ## What a well-formed packet form says of its fields -/

theorem wellFormed_reqPlain_iff (id len instr : Byte) (data : List Byte) (ck : Byte) :
    (Instr.reqPlain id len instr data ck).wellFormed = true ↔
      requestId id = true ∧ len.toNat = 2 + data.length := by
  simp [Instr.wellFormed]

theorem wellFormed_reqAddr_iff (id len instr addr : Byte) (data : List Byte) (ck : Byte) :
    (Instr.reqAddr id len instr addr data ck).wellFormed = true ↔
      requestId id = true ∧ presentByte addr = true ∧ len.toNat = 3 + data.length := by
  simp [Instr.wellFormed, and_assoc]

theorem wellFormed_reqPcnt_iff (id len instr pcnt : Byte) (data : List Byte) (ck : Byte) :
    (Instr.reqPcnt id len instr pcnt data ck).wellFormed = true ↔
      requestId id = true ∧ presentByte pcnt = true ∧ len.toNat = 3 + data.length := by
  simp [Instr.wellFormed, and_assoc]

theorem wellFormed_reqAddrPcnt_iff (id len instr addr pcnt : Byte) (data : List Byte) (ck : Byte) :
    (Instr.reqAddrPcnt id len instr addr pcnt data ck).wellFormed = true ↔
      requestId id = true ∧ presentByte addr = true ∧ presentByte pcnt = true ∧ len.toNat = 4 + data.length := by
  simp [Instr.wellFormed, and_assoc]

theorem wellFormed_reqSync_iff (id len instr : Byte) (addr : Option Byte) (pcnt : Byte)
    (groups : List (Byte × List Byte)) (ck : Byte) :
    (Instr.reqSync id len instr addr pcnt groups ck).wellFormed = true ↔
      id = Config.idBroadcast ∧ (∀ b ∈ addr, presentByte b = true) ∧ presentByte pcnt = true ∧
      len.toNat = 3 + addr.toList.length + groups.length * (pcnt.toNat + 1) ∧ 1 ≤ groups.length ∧
      groups.length ≤ Config.idlistCap ∧ ∀ g ∈ groups, g.2.length = pcnt.toNat := by
  cases addr <;> simp [Instr.wellFormed, and_assoc]

theorem wellFormed_resp_iff (id len status : Byte) (params : List Byte) (ck : Byte) :
    (Instr.resp id len status params ck).wellFormed = true ↔ params.length = len.toNat - 2 := by
  simp [Instr.wellFormed]

/-! ## Parts of a packet -/

theorem splitHeader_packetBytes (id len instr : Byte) (between : List Byte) (ck : Byte) (rest : List Byte) :
    splitHeader (packetBytes id len instr between ck ++ rest) = .ok ((id, len, instr), between ++ ck :: rest) := by
  simp [packetBytes, splitHeader]

theorem splitField_present {b : Byte} (h : presentByte b = true) (bs : List Byte) :
    splitField (b :: bs) = .ok (b, bs) := if_pos h

theorem splitTail_append (data : List Byte) (ck : Byte) (rest : List Byte) :
    splitTail data.length (data ++ ck :: rest) = .ok (data, ck, rest) := by
  simp [splitTail]

theorem splitFlat_append {n : Nat} {id len : Byte} {data : List Byte} (hid : requestId id = true)
    (hlen : len.toNat = 2 + n + data.length) (ck : Byte) (rest : List Byte) :
    splitFlat n id len (data ++ ck :: rest) = .ok (data, ck, rest) := by
  have hpayload : len.toNat - 2 - n = data.length := by omega
  rw [splitFlat, if_pos hid, if_neg (by omega), hpayload, splitTail_append]

theorem splitGroups_groupBytes {size : Nat} {groups : List (Byte × List Byte)}
    (h : ∀ g ∈ groups, g.2.length = size) (bs : List Byte) :
    splitGroups size groups.length (groupBytes groups ++ bs) = .ok (groups, bs) := by
  induction groups with
  | nil => rfl
  | cons g gs ih =>
    obtain ⟨hg, hgs⟩ := List.forall_mem_cons.mp h
    have hbytes : groupBytes (g :: gs) ++ bs = g.1 :: (g.2 ++ (groupBytes gs ++ bs)) := by simp [groupBytes]
    rw [hbytes, List.length_cons, splitGroups, if_neg (by simp [hg]), ← hg, List.drop_left, List.take_left, hg,
      ih hgs]

theorem splitSync_groupBytes {n : Nat} {len pcnt : Byte} {groups : List (Byte × List Byte)}
    (hlen : len.toNat = 2 + n + groups.length * (pcnt.toNat + 1)) (hone : 1 ≤ groups.length)
    (hcap : groups.length ≤ Config.idlistCap) (hsize : ∀ g ∈ groups, g.2.length = pcnt.toNat) (ck : Byte)
    (rest : List Byte) :
    splitSync n Config.idBroadcast len pcnt (groupBytes groups ++ ck :: rest) = .ok (groups, ck, rest) := by
  have hcount : (len.toNat - 2 - n) / (pcnt.toNat + 1) = groups.length := by
    rw [show len.toNat - 2 - n = groups.length * (pcnt.toNat + 1) by omega, Nat.mul_div_cancel _ (Nat.succ_pos _)]
  have hfits : ¬ (len.toNat ≠ 2 + n + groups.length * (pcnt.toNat + 1) ∨ groups.length = 0 ∨
      Config.idlistCap < groups.length) := by omega
  simp only [splitSync, hcount, if_neg hfits, splitGroups_groupBytes hsize, ne_eq, not_true_eq_false, if_false]

/-! ## The packet forms -/

/-- A parser that succeeds hands its value on. -/
theorem ok_bind {α β : Type} (a : α) (f : α → Except DecodeError β) : (Except.ok a >>= f) = f a := rfl

theorem decodeReqPlain_packetBytes {id len : Byte} {data : List Byte} (hid : requestId id = true)
    (hlen : len.toNat = 2 + data.length) (instr ck : Byte) (rest : List Byte) :
    decodeReqPlain (packetBytes id len instr data ck ++ rest) = .ok (.reqPlain id len instr data ck, rest) := by
  simp only [decodeReqPlain, splitHeader_packetBytes, ok_bind, splitFlat_append (n := 0) hid hlen]

theorem decodeReqAddr_packetBytes {id len addr : Byte} {data : List Byte} (hid : requestId id = true)
    (haddr : presentByte addr = true) (hlen : len.toNat = 3 + data.length) (instr ck : Byte) (rest : List Byte) :
    decodeReqAddr (packetBytes id len instr (addr :: data) ck ++ rest) =
      .ok (.reqAddr id len instr addr data ck, rest) := by
  simp only [decodeReqAddr, splitHeader_packetBytes, ok_bind, List.cons_append, splitField_present haddr,
    splitFlat_append (n := 1) hid hlen]

theorem decodeReqPcnt_packetBytes {id len pcnt : Byte} {data : List Byte} (hid : requestId id = true)
    (hpcnt : presentByte pcnt = true) (hlen : len.toNat = 3 + data.length) (instr ck : Byte) (rest : List Byte) :
    decodeReqPcnt (packetBytes id len instr (pcnt :: data) ck ++ rest) =
      .ok (.reqPcnt id len instr pcnt data ck, rest) := by
  simp only [decodeReqPcnt, splitHeader_packetBytes, ok_bind, List.cons_append, splitField_present hpcnt,
    splitFlat_append (n := 1) hid hlen]

theorem decodeReqAddrPcnt_packetBytes {id len addr pcnt : Byte} {data : List Byte} (hid : requestId id = true)
    (haddr : presentByte addr = true) (hpcnt : presentByte pcnt = true) (hlen : len.toNat = 4 + data.length)
    (instr ck : Byte) (rest : List Byte) :
    decodeReqAddrPcnt (packetBytes id len instr (addr :: pcnt :: data) ck ++ rest) =
      .ok (.reqAddrPcnt id len instr addr pcnt data ck, rest) := by
  simp only [decodeReqAddrPcnt, splitHeader_packetBytes, ok_bind, List.cons_append, splitField_present haddr,
    splitField_present hpcnt, splitFlat_append (n := 2) hid hlen]

/-- A sync write is read back, with an address byte and without (R66). -/
theorem decode_encode_reqSync {id len instr : Byte} {addr : Option Byte} {pcnt : Byte}
    {groups : List (Byte × List Byte)} {ck : Byte}
    (h : (Instr.reqSync id len instr addr pcnt groups ck).wellFormed = true) (rest : List Byte) :
    decode (encode (.reqSync id len instr addr pcnt groups ck) ++ rest) =
      .ok (.reqSync id len instr addr pcnt groups ck, rest) := by
  obtain ⟨rfl, haddr, hpcnt, hlen, hone, hcap, hsize⟩ := (wellFormed_reqSync_iff ..).mp h
  cases addr with
  | none =>
    change decodeReqSync (packetBytes _ len instr (pcnt :: groupBytes groups) ck ++ rest) = _
    simp only [decodeReqSync, splitHeader_packetBytes, ok_bind, List.cons_append, splitField_present hpcnt,
      splitSync_groupBytes (n := 1) hlen hone hcap hsize]
  | some a =>
    change decodeReqSyncAddr (packetBytes _ len instr (a :: pcnt :: groupBytes groups) ck ++ rest) = _
    simp only [decodeReqSyncAddr, splitHeader_packetBytes, ok_bind, List.cons_append,
      splitField_present (haddr a rfl), splitField_present hpcnt,
      splitSync_groupBytes (n := 2) hlen hone hcap hsize]

theorem decodeResp_packetBytes {len : Byte} {params : List Byte} (hlen : params.length = len.toNat - 2)
    (id status ck : Byte) (rest : List Byte) :
    decodeResp (packetBytes id len status params ck ++ rest) = .ok (.resp id len status params ck, rest) := by
  simp only [decodeResp, splitHeader_packetBytes, ok_bind, ← hlen, splitTail_append]

/-- Settles O1: the first byte selects the parser (R69; logs 1 and 2), and each parser reads back what its form laid
out. -/
theorem decodeReadsBackEveryEncodedInstruction : Obligations.DecodeReadsBackEveryEncodedInstruction := by
  intro i rest h
  cases i with
  | beginTxn | send | endTxn | checksum | encode => rfl
  | reserved0 | reservedA | reservedB | reservedC | reservedD | reservedE | reservedF => rfl
  | receive n => exact decodeCount_ofNat .receive (of_decide_eq_true h) rest
  | transact n => exact decodeCount_ofNat .transact (of_decide_eq_true h) rest
  | setTap fn ctx =>
    obtain ⟨hf, hc⟩ : fn.code < 2 ^ 32 ∧ ctx.token < 2 ^ 32 := by simpa [Instr.wellFormed] using h
    exact decodeSetTap_le32 hf hc rest
  | decode hdr id n => exact decodeDecode_ofNat hdr id (of_decide_eq_true h) rest
  | reqPlain id len instr data ck =>
    obtain ⟨hid, hlen⟩ := (wellFormed_reqPlain_iff ..).mp h
    exact decodeReqPlain_packetBytes hid hlen instr ck rest
  | reqAddr id len instr addr data ck =>
    obtain ⟨hid, haddr, hlen⟩ := (wellFormed_reqAddr_iff ..).mp h
    exact decodeReqAddr_packetBytes hid haddr hlen instr ck rest
  | reqPcnt id len instr pcnt data ck =>
    obtain ⟨hid, hpcnt, hlen⟩ := (wellFormed_reqPcnt_iff ..).mp h
    exact decodeReqPcnt_packetBytes hid hpcnt hlen instr ck rest
  | reqAddrPcnt id len instr addr pcnt data ck =>
    obtain ⟨hid, haddr, hpcnt, hlen⟩ := (wellFormed_reqAddrPcnt_iff ..).mp h
    exact decodeReqAddrPcnt_packetBytes hid haddr hpcnt hlen instr ck rest
  | reqSync id len instr addr pcnt groups ck => exact decode_encode_reqSync h rest
  | resp id len status params ck =>
    exact decodeResp_packetBytes ((wellFormed_resp_iff ..).mp h) id status ck rest

/-- Settles O2: the decoder, run on the sixteen words. -/
theorem commandCodesOfTheTableDecode : Obligations.CommandCodesOfTheTableDecode := rfl

end Sys2Proof
end

section
/-! SUPPORT. The descriptor as a request: the length equation and the sync rule of a well-formed one, the wire form it
selects, the length of its packet, and the commands that refuse the others (spec/30_encoding.md R60 to R72). -/

namespace Sys2Proof.Machine

/-! ## Presence and well-formedness -/

theorem present_of_ne {b : Byte} (h : b ≠ 255) : present b = true := decide_eq_true h

/-- The number of present fields, as R61 counts them. -/
theorem nPresent_eq (d : Desc) :
    d.nPresent = (if d.addr = 255 then 0 else 1) + (if d.pcnt = 255 then 0 else 1) := by
  have count (b : Byte) : (present b).toNat = if b = 255 then 0 else 1 := by
    rw [← ite_present]
    cases present b <;> rfl
  rw [Desc.nPresent, count, count]

theorem requestId_iff (id : Byte) : requestId id = true ↔ id.toNat ≤ 254 := by
  simp [requestId, Config.idBroadcast, BitVec.le_def]

/-- R71, condition by condition, over the registers' values. -/
theorem wf_iff (d : Desc) : d.wf = true ↔
    d.id.toNat ≤ 254 ∧ 2 + d.nPresent ≤ d.len.toNat ∧ d.len.toNat ≤ 255 ∧
      (d.idn.toNat = 0 ∨
        (1 ≤ d.idn.toNat ∧ d.id.toNat = 254 ∧ d.pcnt ≠ 255 ∧
          d.len.toNat - 2 - d.nPresent = d.idn.toNat * (d.pcnt.toNat + 1) ∧
          d.idn.toNat ≤ 251 ∧ d.idn.toNat * d.pcnt.toNat ≤ 253)) := by
  have hidn : d.idn = 0 ↔ d.idn.toNat = 0 := BitVec.toNat_inj.symm
  have hbroadcast : d.id = Config.idBroadcast ↔ d.id.toNat = 254 := BitVec.toNat_inj.symm
  have hpresent : present d.pcnt = true ↔ d.pcnt ≠ 255 := decide_eq_true_iff
  simp only [Desc.wf, Bool.and_eq_true, Bool.or_eq_true, decide_eq_true_eq, beq_iff_eq, bne_iff_ne, ne_eq,
    BitVec.le_def, hidn, hbroadcast, hpresent, and_assoc, ← Nat.one_le_iff_ne_zero]
  rfl

theorem wf_iff_wellFormedRequest (d : Desc) : d.wf = true ↔ Spec.wellFormedRequest d := by
  rw [wf_iff, nPresent_eq]
  rfl

/-! ## The lengths of the parts -/

theorem nPresent_le_len_of_wf {d : Desc} (h : d.wf = true) : 2 + d.nPresent ≤ d.len.toNat := by
  obtain ⟨-, hlen, -⟩ := (wf_iff d).mp h
  exact hlen

/-- What R71 asks of a sync write. -/
theorem sync_of_wf {d : Desc} (h : d.wf = true) (hsync : d.idn ≠ 0) :
    1 ≤ d.idn.toNat ∧ d.id = 254 ∧ d.pcnt ≠ 255 ∧
      d.len.toNat = 2 + d.nPresent + d.idn.toNat * (d.pcnt.toNat + 1) ∧ d.idn.toNat ≤ 251 := by
  obtain ⟨-, hmin, -, hflat | ⟨hone, hid, hpcnt, hlen, hcap, -⟩⟩ := (wf_iff d).mp h
  · exact absurd (BitVec.eq_of_toNat_eq hflat) hsync
  · exact ⟨hone, BitVec.eq_of_toNat_eq hid, hpcnt, by omega, hcap⟩

theorem optionals_length (d : Desc) : d.optionals.length = d.nPresent := by
  rw [optionals_eq, nPresent_eq]
  split <;> split <;> rfl

/-- `p = LEN − 2 − n` bytes, which `DATA` always holds, because `LEN` is a byte (R64, R65). -/
theorem flatPayload_length (d : Desc) : d.flatPayload.length = d.len.toNat - 2 - d.nPresent := by
  rw [flatPayload_eq, List.length_map, List.length_range, payloadCount_eq]

theorem groups_length (d : Desc) : d.groups.length = d.idn.toNat := by simp [Desc.groups]

/-- Every group of a well-formed sync write holds `PCNT` bytes (R66). -/
theorem group_size_of_wf {d : Desc} (h : d.wf = true) : ∀ g ∈ d.groups, g.2.length = d.pcnt.toNat := by
  intro g hg
  obtain ⟨k, hk, rfl⟩ := List.mem_map.mp hg
  have hfits : (k + 1) * d.pcnt.toNat ≤ Config.dataCap :=
    (Nat.mul_le_mul_right _ (List.mem_range.mp hk)).trans (groups_fit_of_wf h)
  rw [Nat.succ_mul] at hfits
  simp only [Desc.group, List.length_take, List.length_drop, Vector.length_toList]
  omega

/-- The payload has `LEN − 2 − n` bytes, flat or in groups (R64, R66). -/
theorem payload_length_of_wf {d : Desc} (h : d.wf = true) : d.payload.length = d.len.toNat - 2 - d.nPresent := by
  unfold Desc.payload
  split
  next => exact flatPayload_length d
  next hsync =>
    obtain ⟨-, -, -, hlen, -⟩ := sync_of_wf h hsync
    have hsize : d.groups.all (fun g => g.2.length == d.pcnt.toNat) = true := by simpa using group_size_of_wf h
    rw [Laws.EncodeBound.groupBytes_length _ _ hsize, groups_length]
    omega

theorem between_length_of_wf {d : Desc} (h : d.wf = true) : d.between.length = d.len.toNat - 2 := by
  have := nPresent_le_len_of_wf h
  rw [Desc.between, List.length_append, optionals_length, payload_length_of_wf h]
  omega

/-! ## The packet -/

theorem packet_eq_append (d : Desc) :
    d.packet = [0xFF, 0xFF, d.id, d.len, d.instr] ++ d.between ++ [d.checksum] := rfl

theorem packet_length_of_wf {d : Desc} (h : d.wf = true) : d.packet.length = d.len.toNat + 4 := by
  have := nPresent_le_len_of_wf h
  simp only [packet_eq_append, List.length_append, between_length_of_wf h, List.length_cons, List.length_nil]
  omega

theorem packet_getElem?_checksum {d : Desc} (h : d.wf = true) : d.packet[d.len.toNat + 3]? = some d.checksum := by
  have hlast : d.len.toNat + 3 = d.packet.length - 1 := by rw [packet_length_of_wf h]; rfl
  rw [hlast, ← List.getLast?_eq_getElem?, packet_eq_append, List.getLast?_concat]

/-- Settles O14: `packet_length_of_wf` with `2 ≤ LEN ≤ 255`. -/
theorem packetHasLengthLenPlusFour : Obligations.PacketHasLengthLenPlusFour := by
  intro d h
  have hlength := packet_length_of_wf h
  have hmin := nPresent_le_len_of_wf h
  have hmax := d.len.isLt
  exact ⟨hlength, by omega, by omega, rfl, packet_getElem?_checksum h⟩

/-! ## The wire form -/

theorem form_of_plain {d : Desc} (hflat : d.idn = 0) (ha : d.addr = 255) (hp : d.pcnt = 255) :
    d.form = .reqPlain d.id d.len d.instr d.flatPayload d.checksum := by
  simp only [Desc.form, if_pos hflat, ha, hp]
  rfl

theorem form_of_addr {d : Desc} (hflat : d.idn = 0) (ha : d.addr ≠ 255) (hp : d.pcnt = 255) :
    d.form = .reqAddr d.id d.len d.instr d.addr d.flatPayload d.checksum := by
  simp only [Desc.form, if_pos hflat, present_of_ne ha, hp]
  rfl

theorem form_of_pcnt {d : Desc} (hflat : d.idn = 0) (ha : d.addr = 255) (hp : d.pcnt ≠ 255) :
    d.form = .reqPcnt d.id d.len d.instr d.pcnt d.flatPayload d.checksum := by
  simp only [Desc.form, if_pos hflat, present_of_ne hp, ha]
  rfl

theorem form_of_addrPcnt {d : Desc} (hflat : d.idn = 0) (ha : d.addr ≠ 255) (hp : d.pcnt ≠ 255) :
    d.form = .reqAddrPcnt d.id d.len d.instr d.addr d.pcnt d.flatPayload d.checksum := by
  simp only [Desc.form, if_pos hflat, present_of_ne ha, present_of_ne hp]

theorem form_of_sync {d : Desc} (hsync : d.idn ≠ 0) :
    d.form = .reqSync d.id d.len d.instr (if d.addr = 255 then none else some d.addr) d.pcnt d.groups d.checksum := by
  rw [Desc.form, if_neg hsync, ite_present]

theorem flatPayload_of_nPresent {d : Desc} {n : Nat} (h : d.nPresent = n) :
    d.flatPayload = d.data.toList.take (d.len.toNat - (2 + n)) := by
  rw [Desc.flatPayload, h, Nat.sub_add_eq]

theorem between_eq (d : Desc) : d.between =
    (if d.addr = 255 then [] else [d.addr]) ++ (if d.pcnt = 255 then [] else [d.pcnt]) ++ d.payload := by
  rw [Desc.between, optionals_eq]

theorem payload_of_flat {d : Desc} (hflat : d.idn = 0) : d.payload = d.flatPayload := if_pos hflat

theorem payload_of_sync {d : Desc} (hsync : d.idn ≠ 0) : d.payload = groupBytes d.groups := if_neg hsync

/-- The bytes of the selected form are the packet: form by form, the same bytes stand between instruction and checksum
(R62, R66). A sync write needs its count byte for that (R71). -/
theorem packet_eq_wireBytes_form {d : Desc} (h : d.wf = true) : d.packet = wireBytes d.form := by
  rw [Desc.packet, between_eq]
  by_cases hflat : d.idn = 0
  · rw [payload_of_flat hflat]
    by_cases ha : d.addr = 255 <;> by_cases hp : d.pcnt = 255
    · rw [form_of_plain hflat ha hp, if_pos ha, if_pos hp]; rfl
    · rw [form_of_pcnt hflat ha hp, if_pos ha, if_neg hp]; rfl
    · rw [form_of_addr hflat ha hp, if_neg ha, if_pos hp]; rfl
    · rw [form_of_addrPcnt hflat ha hp, if_neg ha, if_neg hp]; rfl
  · obtain ⟨-, -, hp, -⟩ := sync_of_wf h hflat
    rw [payload_of_sync hflat, form_of_sync hflat, if_neg hp]
    by_cases ha : d.addr = 255
    · rw [if_pos ha, if_pos ha]; rfl
    · rw [if_neg ha, if_neg ha]; rfl

theorem requestId_of_wf {d : Desc} (h : d.wf = true) : requestId d.id = true := by
  obtain ⟨hid, -⟩ := (wf_iff d).mp h
  exact (requestId_iff d.id).mpr hid

/-- The length equation of a flat request (R64). -/
theorem len_eq_of_wf {d : Desc} (h : d.wf = true) {n : Nat} (hn : d.nPresent = n) :
    d.len.toNat = 2 + n + d.flatPayload.length := by
  have := nPresent_le_len_of_wf h
  rw [flatPayload_length]
  omega

theorem form_wellFormed_of_wf {d : Desc} (h : d.wf = true) : d.form.wellFormed = true := by
  have hid := requestId_of_wf h
  have hn := nPresent_eq d
  by_cases hflat : d.idn = 0
  · by_cases ha : d.addr = 255 <;> by_cases hp : d.pcnt = 255 <;> simp only [ha, hp, if_true, if_false] at hn
    · rw [form_of_plain hflat ha hp, wellFormed_reqPlain_iff]
      exact ⟨hid, len_eq_of_wf h hn⟩
    · rw [form_of_pcnt hflat ha hp, wellFormed_reqPcnt_iff]
      exact ⟨hid, present_of_ne hp, len_eq_of_wf h hn⟩
    · rw [form_of_addr hflat ha hp, wellFormed_reqAddr_iff]
      exact ⟨hid, present_of_ne ha, len_eq_of_wf h hn⟩
    · rw [form_of_addrPcnt hflat ha hp, wellFormed_reqAddrPcnt_iff]
      exact ⟨hid, present_of_ne ha, present_of_ne hp, len_eq_of_wf h hn⟩
  · obtain ⟨hone, hbroadcast, hp, hlen, hcap⟩ := sync_of_wf h hflat
    rw [form_of_sync hflat, wellFormed_reqSync_iff, groups_length]
    by_cases ha : d.addr = 255 <;> simp only [ha, hp, if_true, if_false] at hn ⊢ <;> rw [hn] at hlen
    · exact ⟨hbroadcast, nofun, present_of_ne hp, hlen, hone, hcap, group_size_of_wf h⟩
    · refine ⟨hbroadcast, fun b hb => ?_, present_of_ne hp, hlen, hone, hcap, group_size_of_wf h⟩
      obtain rfl := Option.mem_some.mp hb
      exact present_of_ne ha

/-- Settles O13: R62's table is `form_of_plain` to `form_of_sync`, with the payload's length from the number of present
fields. -/
theorem packetIsTheFormTheDescriptorSelects : Obligations.PacketIsTheFormTheDescriptorSelects := by
  intro d h
  have hn := nPresent_eq d
  refine ⟨packet_eq_wireBytes_form h, form_wellFormed_of_wf h, ?_, ?_, ?_, ?_, ?_⟩
  · intro hflat ha hp
    rw [form_of_plain hflat ha hp, flatPayload_of_nPresent (n := 0) (by rw [hn, if_pos ha, if_pos hp])]
  · intro hflat ha hp
    rw [form_of_addr hflat ha hp, flatPayload_of_nPresent (n := 1) (by rw [hn, if_neg ha, if_pos hp])]
  · intro hflat ha hp
    rw [form_of_pcnt hflat ha hp, flatPayload_of_nPresent (n := 1) (by rw [hn, if_pos ha, if_neg hp])]
  · intro hflat ha hp
    rw [form_of_addrPcnt hflat ha hp, flatPayload_of_nPresent (n := 2) (by rw [hn, if_neg ha, if_neg hp])]
  · intro hsync
    exact ⟨_, d.groups, form_of_sync hsync, rfl, groups_length d⟩

/-! ## The commands that refuse their operands -/

theorem exec_encode_eq (s : State) : exec .encode s = acceptIn anyPhase s
    (require s.desc.wf .notWellFormed (.next (setResult (.bytes s.desc.packet) (writeChecksum s)))) := rfl

theorem exec_send_eq (s : State) : exec .send s =
    acceptIn [.reserved] s (require s.desc.wf .notWellFormed (.next (sendBody s))) := rfl

theorem exec_receive_eq (n : Nat) (s : State) : exec (.receive n) s =
    acceptIn [.sending] s (require (countInRange n) .countOutOfRange (.next (receiveBody n s))) := rfl

/-- TRANSACT asks for a well-formed request before it looks at the count (R129). -/
theorem exec_transact_eq (n : Nat) (s : State) : exec (.transact n) s =
    acceptIn [.idle] s (require s.desc.wf .notWellFormed (require (countInRange n) .countOutOfRange
      (.next (returnStatus (transactBody n s))))) := rfl

theorem exec_encode_of_not_wf {s : State} (hh : s.hung = none) (hw : s.desc.wf = false) :
    exec .encode s = .refused .notWellFormed := by
  rw [exec_encode_eq, acceptIn_of _ hh (mem_anyPhase s.phase), hw, require_false]

theorem exec_send_of_not_wf {s : State} (hh : s.hung = none) (hp : s.phase = .reserved) (hw : s.desc.wf = false) :
    exec .send s = .refused .notWellFormed := by
  rw [exec_send_eq, acceptIn_of _ hh (List.mem_singleton.mpr hp), hw, require_false]

theorem exec_transact_of_not_wf (n : Nat) {s : State} (hh : s.hung = none) (hp : s.phase = .idle)
    (hw : s.desc.wf = false) : exec (.transact n) s = .refused .notWellFormed := by
  rw [exec_transact_eq, acceptIn_of _ hh (List.mem_singleton.mpr hp), hw, require_false]

theorem countInRange_eq_false {n : Nat} (h : 253 < n) : countInRange n = false :=
  decide_eq_false (Nat.not_le_of_lt h)

theorem exec_receive_of_count {n : Nat} {s : State} (hh : s.hung = none) (hp : s.phase = .sending) (hn : 253 < n) :
    exec (.receive n) s = .refused .countOutOfRange := by
  rw [exec_receive_eq, acceptIn_of _ hh (List.mem_singleton.mpr hp), countInRange_eq_false hn, require_false]

theorem exec_transact_of_count {n : Nat} {s : State} (hh : s.hung = none) (hp : s.phase = .idle)
    (hw : s.desc.wf = true) (hn : 253 < n) : exec (.transact n) s = .refused .countOutOfRange := by
  rw [exec_transact_eq, acceptIn_of _ hh (List.mem_singleton.mpr hp), hw, require_true,
    countInRange_eq_false hn, require_false]

/-- Settles O10: `wf_iff_wellFormedRequest`, and the three refusals of an ill-formed request. -/
theorem requestIsWellFormedExactlyByTheRule : Obligations.RequestIsWellFormedExactlyByTheRule := by
  refine ⟨wf_iff_wellFormedRequest, fun s n hh hill => ?_⟩
  have hw : s.desc.wf = false := by rwa [← wf_iff_wellFormedRequest, Bool.not_eq_true] at hill
  exact ⟨exec_encode_of_not_wf hh hw, fun hp => exec_send_of_not_wf hh hp hw,
    fun hp => exec_transact_of_not_wf n hh hp hw⟩

/-- Settles O43: one lemma for each command and requirement. -/
theorem illFormedOperandsAreRefused : Obligations.IllFormedOperandsAreRefused :=
  fun _ n hh => ⟨exec_send_of_not_wf hh, exec_transact_of_not_wf n hh, exec_receive_of_count hh,
    exec_transact_of_count hh⟩

/-- Settles O44: each of these arms of `exec` answers its refusal without looking at the state. -/
theorem reservedCodesAndHostDecodeAreRefused : Obligations.ReservedCodesAndHostDecodeAreRefused := by
  refine ⟨fun s i hi => ?_, fun _ _ _ _ => rfl⟩
  simp only [List.mem_cons, List.not_mem_nil, or_false] at hi
  obtain rfl | rfl | rfl | rfl | rfl | rfl | rfl := hi <;> rfl

end Sys2Proof.Machine
end

section
/-! SUPPORT. The codec's two host commands, what the checksum of a packet detects, and why a packet does not tell its
form (spec/40_codec.md R90 to R94). -/

namespace Sys2Proof.Machine

/-! ## CHECKSUM and ENCODE -/

theorem exec_checksum_eq (s : State) : exec .checksum s = acceptIn anyPhase s
    (require s.desc.wf .notWellFormed (.next (setResult (.byte s.desc.checksum) s))) := rfl

/-- Settles O11: the byte is `checksum_eq`'s; a filled descriptor has no groups, which is all that lemma asks. -/
theorem checksumReturnsTheByteOfTheRule : Obligations.ChecksumReturnsTheByteOfTheRule := by
  refine ⟨fun s hh => ⟨fun hw => ?_, fun hw => ?_⟩, fun d _ _ hflat _ => checksum_eq d (by simp [hflat])⟩
  · rw [exec_checksum_eq, acceptIn_of _ hh (mem_anyPhase s.phase), hw, require_true,
      checksum_eq _ (groups_fit_of_wf hw)]
    rfl
  · rw [exec_checksum_eq, acceptIn_of _ hh (mem_anyPhase s.phase), hw, require_false]

/-- Settles O12: the packet and the checksum are those of the pseudocode (`packet_of_wf`, `checksum_eq`). -/
theorem encodeReturnsThePacketAndWritesCksum : Obligations.EncodeReturnsThePacketAndWritesCksum := by
  refine fun s hh => ⟨fun hw => ?_, exec_encode_of_not_wf hh⟩
  rw [exec_encode_eq, acceptIn_of _ hh (mem_anyPhase s.phase), hw, require_true, packet_of_wf hw, writeChecksum,
    checksum_eq _ (groups_fit_of_wf hw)]
  rfl

/-! ## What the checksum detects -/

/-- A checksum byte is right exactly when it completes the sum to 255 modulo 256 (R92). -/
theorem eq_complementByte_iff (c : Byte) (sum : Nat) : c = complementByte sum ↔ (sum + c.toNat) % 256 = 255 := by
  have := c.isLt
  rw [← BitVec.toNat_inj, complementByte_toNat]
  omega

/-- The checksum covers all but the two header bytes and itself (R67). -/
theorem packet_drop_two (d : Desc) : d.packet.drop 2 = d.covered ++ [d.checksum] := rfl

theorem byteSum_packet_drop_two (d : Desc) : byteSum (d.packet.drop 2) % 256 = 255 := by
  simpa [packet_drop_two] using (eq_complementByte_iff d.checksum (byteSum d.covered)).mp rfl

theorem byteSum_set {bs : List Byte} {i : Nat} (h : i < bs.length) (b : Byte) :
    byteSum (bs.set i b) + bs[i].toNat = byteSum bs + b.toNat := by
  induction bs generalizing i with
  | nil => cases h
  | cons a bs ih =>
    cases i with
    | zero => simp; omega
    | succ i =>
      have := ih (Nat.lt_of_succ_lt_succ h)
      simp only [List.set_cons_succ, List.getElem_cons_succ, byteSum_cons]
      omega

/-- A byte is below 256, so changing one byte to another value changes the sum modulo 256. -/
theorem byteSum_set_mod_ne {bs : List Byte} {i : Nat} {b : Byte} (h : i < bs.length) (hne : bs[i]? ≠ some b) :
    byteSum (bs.set i b) % 256 ≠ byteSum bs % 256 := by
  have hvalue : bs[i].toNat ≠ b.toNat := by simpa [h, ← BitVec.toNat_inj] using hne
  have hset := byteSum_set h b
  have := bs[i].isLt
  have := b.isLt
  omega

/-- One changed byte from offset 2 on spoils the sum of a packet (R92). -/
theorem byteSum_packet_set_ne {d : Desc} {o : Nat} {b : Byte} (htwo : 2 ≤ o) (ho : o < d.packet.length)
    (hne : d.packet[o]? ≠ some b) : byteSum ((d.packet.set o b).drop 2) % 256 ≠ 255 := by
  obtain ⟨i, rfl⟩ := Nat.exists_eq_add_of_le htwo
  have hdrop : (d.packet.set (2 + i) b).drop 2 = (d.packet.drop 2).set i b := by
    rw [List.drop_set, if_neg (by omega), Nat.add_sub_cancel_left]
  rw [hdrop, ← byteSum_packet_drop_two d]
  exact byteSum_set_mod_ne (by rw [List.length_drop]; omega) (by rwa [List.getElem?_drop])

/-- Settles O15: `byteSum_packet_set_ne`; the checksum is a function of the sum modulo 256 (`complementByte_eq_iff`),
and a reordering keeps the sum (`byteSum_perm`). -/
theorem checksumDetectsOneChangedByteOnly : Obligations.ChecksumDetectsOneChangedByteOnly :=
  fun d _ => ⟨byteSum_packet_drop_two d, fun _ _ htwo ho hne => byteSum_packet_set_ne htwo ho hne,
    fun _ hsum => (complementByte_eq_iff _ _).mpr hsum, fun _ hperm => congrArg complementByte (byteSum_perm hperm)⟩

/-! ## One packet, two forms -/

/-- The packet is made of the three fixed fields and the bytes behind them (R60, R90). -/
theorem packet_congr {d e : Desc} (hid : d.id = e.id) (hlen : d.len = e.len) (hinstr : d.instr = e.instr)
    (hbetween : d.between = e.between) : d.packet = e.packet := by
  simp only [Desc.packet, Desc.checksum, Desc.covered, hid, hlen, hinstr, hbetween]

/-- The descriptor whose count byte is the first payload byte of `d`, and whose payload is the rest. -/
def Desc.firstByteAsCount (d : Desc) : Desc :=
  { d with pcnt := readBuf d.data 0, data := overwrite d.data (d.data.toList.drop 1) }

theorem data_eq_cons (d : Desc) : d.data.toList = readBuf d.data 0 :: d.data.toList.drop 1 := by
  have hpos : 0 < d.data.toList.length := by simp
  conv_lhs => rw [← List.drop_zero (l := d.data.toList), List.drop_eq_getElem_cons hpos]
  simp [readBuf_of_lt]

/-- The first byte of a payload that is not empty can be read as the count (R94). -/
theorem firstByteAsCount_between {d : Desc} (hflat : d.idn = 0) (ha : d.addr ≠ 255) (hp : d.pcnt = 255)
    (hlen : 4 ≤ d.len.toNat) (hfirst : readBuf d.data 0 ≠ 255) : d.firstByteAsCount.between = d.between := by
  have hmax := d.len.isLt
  have hcount : d.len.toNat - 3 = d.len.toNat - 4 + 1 := by omega
  have hflat' : d.firstByteAsCount.idn = 0 := hflat
  have ha' : d.firstByteAsCount.addr ≠ 255 := ha
  have hp' : d.firstByteAsCount.pcnt ≠ 255 := hfirst
  have hn : d.nPresent = 1 := by rw [nPresent_eq, if_neg ha, if_pos hp]
  have hn' : d.firstByteAsCount.nPresent = 2 := by rw [nPresent_eq, if_neg ha', if_neg hp']
  have hdata : d.firstByteAsCount.flatPayload = (d.data.toList.drop 1).take (d.len.toNat - 4) := by
    rw [flatPayload_of_nPresent hn']
    simp only [Desc.firstByteAsCount, overwrite_toList, List.take_take]
    rw [List.take_append_of_le_length (by simp; omega)]
    congr 1
    simp only [Config.dataCap]
    omega
  rw [between_eq, between_eq, payload_of_flat hflat, payload_of_flat hflat', hdata, flatPayload_of_nPresent hn,
    data_eq_cons d, if_neg ha, if_neg ha', if_neg hp', if_pos hp, hcount, List.take_succ_cons]
  simp [Desc.firstByteAsCount]

/-- Settles O16: `firstByteAsCount` is well-formed with one field more, and has the same bytes between instruction and
checksum. -/
theorem packetDoesNotTellWhichFormBuiltIt : Obligations.PacketDoesNotTellWhichFormBuiltIt := by
  intro d h hflat ha hp hlen hfirst
  obtain ⟨hid, -, hmax, -⟩ := (wf_iff d).mp h
  have hn : d.firstByteAsCount.nPresent ≤ 2 := by rw [nPresent_eq]; split <;> split <;> omega
  have hlen' : 2 + d.firstByteAsCount.nPresent ≤ d.len.toNat := by omega
  refine ⟨d.firstByteAsCount, (wf_iff _).mpr ⟨hid, hlen', hmax, .inl ?_⟩, rfl, fun he => ?_,
    packet_congr rfl rfl rfl (firstByteAsCount_between hflat ha hp hlen hfirst)⟩
  · exact congrArg BitVec.toNat hflat
  · exact hfirst ((congrArg Desc.pcnt he).trans hp)

end Sys2Proof.Machine
end

section
/-! SUPPORT. DECODE against R103's table (spec/40_codec.md R95 to R105): the model's reads are those of the statements,
DECODE ends in `Spec.decoded`, and what it makes of a packet that stands whole in the receive stream. -/

namespace Sys2Proof.Machine

/-! ## The reads of DECODE -/

theorem fetched_eq_bytesRead (n : Nat) (s : State) : fetched n s = Spec.bytesRead s 0 n s.ch.rx := by
  rw [fetched, nextMove_eq]
  rfl

theorem bytesRead_length_le (s : State) (k n : Nat) (queue : List Byte) :
    (Spec.bytesRead s k n queue).length ≤ n := by
  simp only [Spec.bytesRead, List.length_take]
  omega

theorem payload_length_le (s : State) : (Spec.payload s).length ≤ s.expCnt := by
  unfold Spec.payload
  split
  · exact Nat.zero_le _
  · exact bytesRead_length_le ..

/-- The state after the payload read: its bytes in `DATA`, taken from `ch.rx` and shown to the tap (R100). -/
def afterPayloadRead (s : State) : State :=
  { s with
    desc := { s.desc with data := overwrite s.desc.data (Spec.payload s) }
    ch := { s.ch with rx := Spec.afterPayload s }
    env := s.env.drop (Spec.payloadMoves s)
    events := s.events ++ Spec.payloadEvents s }

/-- With no parameter expected there is no payload read. -/
theorem afterPayloadRead_of_zero {s : State} (h : s.expCnt = 0) : afterPayloadRead s = s := by
  have hpayload : Spec.payload s = [] := if_pos h
  have hafter : Spec.afterPayload s = s.ch.rx := if_pos h
  have hmoves : Spec.payloadMoves s = 0 := if_pos h
  have hevents : Spec.payloadEvents s = [] := if_pos h
  rw [afterPayloadRead, hpayload, hafter, hmoves, hevents, overwrite_nil, List.append_nil]
  rfl

theorem afterPayloadRead_of_pos {s : State} (h : s.expCnt ≠ 0) :
    afterPayloadRead s = setData (fetched s.expCnt s) (afterRead s.expCnt s) := by
  simp [afterPayloadRead, Spec.payload, Spec.afterPayload, Spec.payloadMoves, Spec.payloadEvents, h, setData,
    afterRead, fetched_eq_bytesRead, Spec.bytesLeft, Spec.move, nextMove_eq, deliveries, Spec.tapped]

theorem fetched_of_pos {s : State} (h : s.expCnt ≠ 0) : fetched s.expCnt s = Spec.payload s := by
  rw [fetched_eq_bytesRead, Spec.payload, if_neg h]

theorem payloadStage_of_whole {s : State} (hh : s.hung = none) (h : (Spec.payload s).length = s.expCnt) :
    payloadStage s = checksumStage (afterPayloadRead s) := by
  rcases payloadStage_cases s hh with ⟨h0, e⟩ | ⟨h0, hlt, -, -⟩ | ⟨h0, hlt, -, -⟩ | ⟨h0, -, e⟩
  · rw [e, afterPayloadRead_of_zero h0]
  · rw [fetched_of_pos h0] at hlt; omega
  · rw [fetched_of_pos h0] at hlt; omega
  · rw [e, afterPayloadRead_of_pos h0]

theorem payloadStage_of_short {s : State} (hh : s.hung = none) (hm : s.params.rxByteMode ≠ .rawUnbounded)
    (h : (Spec.payload s).length < s.expCnt) : payloadStage s = setStatus Flag.comTimeout (afterPayloadRead s) := by
  rcases payloadStage_cases s hh with ⟨h0, -⟩ | ⟨-, -, hm', -⟩ | ⟨h0, -, -, e⟩ | ⟨h0, hl, -⟩
  · omega
  · exact absurd hm' hm
  · rw [e, afterPayloadRead_of_pos h0]
  · rw [fetched_of_pos h0] at hl; omega

theorem fetched_one_afterPayloadRead (s : State) : fetched 1 (afterPayloadRead s) = Spec.checksumRead s := by
  simp [fetched_eq_bytesRead, Spec.checksumRead, Spec.bytesRead, Spec.move, afterPayloadRead]

/-- The state after the checksum read that follows a whole payload (R101). -/
def afterChecksumRead (s : State) : State :=
  { afterPayloadRead s with
    ch := { s.ch with rx := Spec.bytesLeft s (Spec.payloadMoves s) 1 (Spec.afterPayload s) }
    env := s.env.drop (Spec.payloadMoves s + 1)
    events := s.events ++ Spec.payloadEvents s
      ++ .rx 1 (Spec.checksumRead s).length (Spec.checksumRead s) :: Spec.tapped s (Spec.checksumRead s) }

theorem afterRead_afterPayloadRead (s : State) : afterRead 1 (afterPayloadRead s) = afterChecksumRead s := by
  have hmove : nextMove (afterPayloadRead s) = Spec.move s (Spec.payloadMoves s) := by
    simp [nextMove_eq, Spec.move, afterPayloadRead]
  have henv : (afterPayloadRead s).env.tail = s.env.drop (Spec.payloadMoves s + 1) := List.tail_drop
  rw [afterRead, fetched_one_afterPayloadRead, hmove, henv]
  rfl

theorem checksumStage_of_byte {s : State} {c : Byte} (hh : s.hung = none) (h : Spec.checksumRead s = [c]) :
    checksumStage (afterPayloadRead s) = checkChecksum (setCksum c (afterChecksumRead s)) := by
  rcases checksumStage_cases (afterPayloadRead s) hh with ⟨hf, -⟩ | ⟨hf, -⟩ | ⟨c', hf, e⟩ <;>
    rw [fetched_one_afterPayloadRead, h] at hf <;> cases hf
  rw [e, afterRead_afterPayloadRead]

theorem checksumStage_of_none {s : State} (hh : s.hung = none) (hm : s.params.rxByteMode ≠ .rawUnbounded)
    (h : Spec.checksumRead s = []) :
    checksumStage (afterPayloadRead s) = setStatus Flag.comTimeout (afterChecksumRead s) := by
  rcases checksumStage_cases (afterPayloadRead s) hh with ⟨-, hm', -⟩ | ⟨-, -, e⟩ | ⟨c', hf, -⟩
  · exact absurd hm' hm
  · rw [e, afterRead_afterPayloadRead]
  · rw [fetched_one_afterPayloadRead, h] at hf; cases hf

/-! ## The outcomes of DECODE -/

theorem headerPasses_iff (s : State) : headerPasses s ↔ Spec.headerGood s.hdr s.expId s.expCnt := by
  simp only [headerPasses, Spec.headerGood, readBuf_of_lt _ _ (show 0 < 5 by decide),
    readBuf_of_lt _ _ (show 1 < 5 by decide), readBuf_of_lt _ _ (show 2 < 5 by decide),
    readBuf_of_lt _ _ (show 3 < 5 by decide)]
  rfl

theorem captureHeader_eq (s : State) : captureHeader s = { s with desc := Spec.captured s.desc s.hdr } := by
  simp only [captureHeader, Spec.captured, readBuf_of_lt _ _ (show 2 < 5 by decide),
    readBuf_of_lt _ _ (show 3 < 5 by decide), readBuf_of_lt _ _ (show 4 < 5 by decide)]
  rfl

/-- The checksum of a descriptor that DECODE has filled (R90, R102). -/
theorem checksum_of_filled {d : Desc} (ha : d.addr = 255) (hp : d.pcnt = 255) (hflat : d.idn = 0) :
    d.checksum = complementByte
      (d.id.toNat + d.len.toNat + d.instr.toNat + byteSum (d.data.toList.take (d.len.toNat - 2))) := by
  have hn : d.nPresent = 0 := by rw [nPresent_eq, if_pos ha, if_pos hp]
  simp [Desc.checksum, Desc.covered, between_eq, payload_of_flat hflat, flatPayload_of_nPresent hn, ha, hp,
    Nat.add_assoc]

/-- Check (e) recomputes the checksum from the captured header and the payload in `DATA`. -/
theorem checkChecksum_afterChecksumRead {s : State} (c : Byte) (hgood : Spec.headerGood s.hdr s.expId s.expCnt)
    (hwhole : (Spec.payload s).length = s.expCnt) :
    checkChecksum (setCksum c (afterChecksumRead (captureHeader s))) =
      setStatus (if c = Spec.responseChecksum s.hdr (Spec.payload s) then Flag.ok else Flag.checksumError)
        (setCksum c (afterChecksumRead (captureHeader s))) := by
  obtain ⟨-, -, -, hlen⟩ := hgood
  have hmax := s.hdr[3].isLt
  have hdata : (overwrite s.desc.data (Spec.payload s)).toList.take (s.hdr[3].toNat - 2) = Spec.payload s := by
    have hcount : s.hdr[3].toNat - 2 = (Spec.payload s).length := by omega
    rw [hcount]
    exact overwrite_take _ _ (by simp only [Config.dataCap]; omega)
  have hchecksum : (setCksum c (afterChecksumRead (captureHeader s))).desc.checksum =
      Spec.responseChecksum s.hdr (Spec.payload s) := by
    rw [captureHeader_eq, checksum_of_filled rfl rfl rfl, Spec.responseChecksum, ← hdata]
    rfl
  rw [checkChecksum, hchecksum, show (setCksum c _).desc.cksum = c from rfl]
  simp only [eq_comm (a := c)]

theorem decodeResponse_of_bad_header {s : State} (h : ¬ Spec.headerGood s.hdr s.expId s.expCnt) :
    decodeResponse s = setStatus Flag.comError (captureHeader s) := by
  rcases decodeResponse_cases s with ⟨-, e⟩ | ⟨hpass, -⟩
  · exact e
  · exact absurd ((headerPasses_iff s).mp hpass) h

theorem decodeResponse_of_good_header {s : State} (h : Spec.headerGood s.hdr s.expId s.expCnt) :
    decodeResponse s = payloadStage (captureHeader s) := by
  rcases decodeResponse_cases s with ⟨hfail, -⟩ | ⟨-, e⟩
  · exact absurd ((headerPasses_iff s).mpr h) hfail
  · exact e

theorem decodeResponse_of_short_payload {s : State} (hh : s.hung = none) (hm : s.params.rxByteMode ≠ .rawUnbounded)
    (hgood : Spec.headerGood s.hdr s.expId s.expCnt) (hshort : (Spec.payload s).length < s.expCnt) :
    decodeResponse s = setStatus Flag.comTimeout (afterPayloadRead (captureHeader s)) := by
  rw [decodeResponse_of_good_header hgood, payloadStage_of_short (s := captureHeader s) hh hm hshort]

theorem decodeResponse_of_no_checksum {s : State} (hh : s.hung = none) (hm : s.params.rxByteMode ≠ .rawUnbounded)
    (hgood : Spec.headerGood s.hdr s.expId s.expCnt) (hwhole : (Spec.payload s).length = s.expCnt)
    (hnone : Spec.checksumRead s = []) :
    decodeResponse s = setStatus Flag.comTimeout (afterChecksumRead (captureHeader s)) := by
  rw [decodeResponse_of_good_header hgood, payloadStage_of_whole (s := captureHeader s) hh hwhole,
    checksumStage_of_none (s := captureHeader s) hh hm hnone]

/-- Reads that return all they ask for end in check (e), in every mode of `RX_BYTE_MODE`. -/
theorem decodeResponse_of_checksum {s : State} {c : Byte} (hh : s.hung = none)
    (hgood : Spec.headerGood s.hdr s.expId s.expCnt) (hwhole : (Spec.payload s).length = s.expCnt)
    (hc : Spec.checksumRead s = [c]) :
    decodeResponse s =
      setStatus (if c = Spec.responseChecksum s.hdr (Spec.payload s) then Flag.ok else Flag.checksumError)
        (setCksum c (afterChecksumRead (captureHeader s))) := by
  rw [decodeResponse_of_good_header hgood, payloadStage_of_whole (s := captureHeader s) hh hwhole,
    checksumStage_of_byte (s := captureHeader s) hh hc,
    checkChecksum_afterChecksumRead c hgood hwhole]

theorem tapped_nil (s : State) : Spec.tapped s [] = [] := by simp [Spec.tapped]

/-- Settles O17: one lemma for each row of R103's table. -/
theorem decodeEndsInOneOfTheOutcomesOfTheTable : Obligations.DecodeEndsInOneOfTheOutcomesOfTheTable := by
  intro s hh hm
  refine ⟨fun hbad => ?_, payload_length_le s, bytesRead_length_le .., fun hgood hshort => ?_,
    fun hgood hwhole hnone => ?_, fun c hgood hwhole hc => ?_⟩
  · rw [decodeResponse_of_bad_header hbad, captureHeader_eq]
    rfl
  · have hmoves : Spec.payloadMoves s = 1 := if_neg (by omega)
    rw [decodeResponse_of_short_payload hh hm hgood hshort, captureHeader_eq, ← hmoves]
    rfl
  · have hnone' : Spec.checksumRead (captureHeader s) = [] := hnone
    rw [decodeResponse_of_no_checksum hh hm hgood hwhole hnone, afterChecksumRead, hnone', tapped_nil, captureHeader_eq]
    rfl
  · have hc' : Spec.checksumRead (captureHeader s) = [c] := hc
    rw [decodeResponse_of_checksum hh hgood hwhole hc, afterChecksumRead, hc', captureHeader_eq]
    rfl

end Sys2Proof.Machine
end

section
/-! SUPPORT. DECODE on a quiet channel: reads take the front of the receive stream, a whole packet is decoded as R104
says, and one changed byte is detected as R105 says (spec/40_codec.md section 4). -/

namespace Sys2Proof.Machine

/-! ## A quiet channel -/

theorem quiet_iff (m : EnvMove) : m.quiet = true ↔ m.arrive = [] ∧ m.avail = none ∧ m.readLimit = none := by
  simp [EnvMove.quiet, and_assoc]

/-- Every coming move of a quiet channel is quiet, those past the end of the script too (log 4). -/
theorem move_quiet {s : State} (hq : s.quietChannel = true) (k : Nat) : (Spec.move s k).quiet = true := by
  rw [Spec.move, List.getD_eq_getElem?_getD]
  cases hk : s.env[k]? with
  | none => rfl
  | some m => exact List.all_eq_true.mp hq m (List.mem_of_getElem? hk)

theorem quietChannel_of_suffix {s t : State} (hq : s.quietChannel = true) (h : t.env <:+ s.env) :
    t.quietChannel = true :=
  List.all_eq_true.mpr fun m hm => List.all_eq_true.mp hq m (h.subset hm)

theorem bytesRead_of_quiet {s : State} (hq : s.quietChannel = true) (k n : Nat) (queue : List Byte) :
    Spec.bytesRead s k n queue = queue.take n := by
  obtain ⟨harrive, -, hlimit⟩ := (quiet_iff _).mp (move_quiet hq k)
  simp [Spec.bytesRead, harrive, hlimit]

theorem bytesLeft_of_quiet {s : State} (hq : s.quietChannel = true) (k n : Nat) (queue : List Byte) :
    Spec.bytesLeft s k n queue = queue.drop n := by
  obtain ⟨harrive, -, -⟩ := (quiet_iff _).mp (move_quiet hq k)
  rw [Spec.bytesLeft, bytesRead_of_quiet hq, harrive, List.append_nil, List.length_take]
  rcases Nat.le_total n queue.length with hle | hge
  · rw [Nat.min_eq_left hle]
  · rw [Nat.min_eq_right hge, List.drop_length, List.drop_eq_nil_of_le hge]

theorem payload_of_quiet {s : State} (hq : s.quietChannel = true) : Spec.payload s = s.ch.rx.take s.expCnt := by
  unfold Spec.payload
  split
  next h0 => rw [h0, List.take_zero]
  next => exact bytesRead_of_quiet hq ..

theorem afterPayload_of_quiet {s : State} (hq : s.quietChannel = true) :
    Spec.afterPayload s = s.ch.rx.drop s.expCnt := by
  unfold Spec.afterPayload
  split
  next h0 => rw [h0, List.drop_zero]
  next => exact bytesLeft_of_quiet hq ..

theorem checksumRead_of_quiet {s : State} (hq : s.quietChannel = true) :
    Spec.checksumRead s = (s.ch.rx.drop s.expCnt).take 1 := by
  rw [Spec.checksumRead, bytesRead_of_quiet hq, afterPayload_of_quiet hq]

theorem afterChecksumRead_rx_of_quiet {s : State} (hq : s.quietChannel = true) :
    (afterChecksumRead s).ch.rx = s.ch.rx.drop (s.expCnt + 1) := by
  change Spec.bytesLeft .. = _
  rw [bytesLeft_of_quiet hq, afterPayload_of_quiet hq, List.drop_drop]

/-! ## A whole packet -/

/-- DECODE with a good header and the rest of its packet in front of the receive stream (R100 to R102): the descriptor,
and the packet is taken from the stream. -/
theorem decodeResponse_of_whole {s : State} {params rest : List Byte} {c : Byte} (hh : s.hung = none)
    (hq : s.quietChannel = true) (hgood : Spec.headerGood s.hdr s.expId s.expCnt) (hcount : params.length = s.expCnt)
    (hrx : s.ch.rx = params ++ c :: rest) :
    (decodeResponse s).desc = { Spec.captured s.desc s.hdr with
        data := overwrite s.desc.data params, cksum := c
        status := if c = Spec.responseChecksum s.hdr params then Flag.ok else Flag.checksumError } ∧
      (decodeResponse s).ch.rx = rest ∧ (decodeResponse s).hung = none := by
  have hpayload : Spec.payload s = params := by rw [payload_of_quiet hq, hrx, ← hcount, List.take_left]
  have hread : Spec.checksumRead s = [c] := by rw [checksumRead_of_quiet hq, hrx, ← hcount, List.drop_left]; rfl
  have hleft : s.ch.rx.drop (s.expCnt + 1) = rest := by
    rw [hrx, ← hcount, ← List.drop_drop, List.drop_left]
    rfl
  rw [decodeResponse_of_checksum hh hgood (by rw [hpayload, hcount]) hread, captureHeader_eq, ← hpayload]
  exact ⟨rfl, (afterChecksumRead_rx_of_quiet hq).trans hleft, hh⟩

/-- The header bytes one by one, when they are known as a list. -/
theorem header_of_toList {h : Vector Byte 5} {b0 b1 b2 b3 b4 : Byte} (e : h.toList = [b0, b1, b2, b3, b4]) :
    h = #v[b0, b1, b2, b3, b4] := Vector.toList_inj.mp e

/-- The received checksum byte is right exactly when the bytes from the id on sum to 255 modulo 256 (R92, R102). -/
theorem eq_responseChecksum_iff (h : Vector Byte 5) (params : List Byte) (c : Byte) :
    c = Spec.responseChecksum h params ↔ byteSum (h.toList.drop 2 ++ (params ++ [c])) % 256 = 255 := by
  rw [Spec.responseChecksum, eq_complementByte_iff, toList_header]
  simp [Nat.add_assoc]

/-- What DECODE makes of the bytes `bytes` of a packet whose header is good: check (e) is R92's sum. -/
theorem decodeResponse_status_of_bytes {s : State} {bytes rest : List Byte} (hh : s.hung = none)
    (hq : s.quietChannel = true) (hgood : Spec.headerGood s.hdr s.expId s.expCnt)
    (hlength : bytes.length = s.expCnt + 6) (hhdr : s.hdr.toList = bytes.take 5)
    (hrx : s.ch.rx = bytes.drop 5 ++ rest) :
    (decodeResponse s).desc.status =
      if byteSum (bytes.drop 2) % 256 = 255 then Flag.ok else Flag.checksumError := by
  have htail : (bytes.drop 5).length = s.expCnt + 1 := by rw [List.length_drop]; omega
  obtain ⟨params, c, hsplit⟩ :=
    (List.eq_nil_or_concat' (bytes.drop 5)).resolve_left (List.ne_nil_of_length_eq_add_one htail)
  have hcount : params.length = s.expCnt := by simpa [hsplit] using htail
  have hbytes : bytes.drop 2 = s.hdr.toList.drop 2 ++ (params ++ [c]) := by
    rw [hhdr, ← hsplit, ← List.drop_append_of_le_length (by rw [List.length_take]; omega), List.take_append_drop]
  have hrx' : s.ch.rx = params ++ c :: rest := by rw [hrx, hsplit, List.append_assoc]; rfl
  obtain ⟨hdesc, -⟩ := decodeResponse_of_whole hh hq hgood hcount hrx'
  rw [hdesc, hbytes]
  simp only [eq_responseChecksum_iff]

/-! ## The round trip -/

theorem packet_take_five (d : Desc) : d.packet.take 5 = [0xFF, 0xFF, d.id, d.len, d.instr] := rfl

theorem packet_drop_five (d : Desc) : d.packet.drop 5 = d.between ++ [d.checksum] := rfl

/-- The header of a well-formed request passes the checks made with its own id and count, whatever its fifth byte. -/
theorem headerGood_of_wf {d : Desc} (h : d.wf = true) (instr : Byte) :
    Spec.headerGood #v[0xFF, 0xFF, d.id, d.len, instr] d.id (d.len.toNat - 2) := by
  have := nPresent_le_len_of_wf h
  refine ⟨rfl, rfl, rfl, ?_⟩
  change (d.len.toNat : Int) - 2 = ((d.len.toNat - 2 : Nat) : Int)
  omega

theorem responseChecksum_of_packet (d : Desc) :
    Spec.responseChecksum #v[0xFF, 0xFF, d.id, d.len, d.instr] d.between = d.checksum := by
  simp [Spec.responseChecksum, Desc.checksum, Desc.covered, Nat.add_assoc]

/-- Settles O18: `decodeResponse_of_whole` on the bytes between instruction and checksum, which are the flat payload
when no optional field is present. -/
theorem decodeOfEncodeReproducesTheRequest : Obligations.DecodeOfEncodeReproducesTheRequest := by
  intro s d rest h hh hq hhdr hid hcnt hrx
  have hheader : s.hdr = #v[0xFF, 0xFF, d.id, d.len, d.instr] := header_of_toList (hhdr.trans (packet_take_five d))
  have hlength := between_length_of_wf h
  have hgood : Spec.headerGood s.hdr s.expId s.expCnt := by
    rw [hheader, hid, hcnt]
    exact headerGood_of_wf h d.instr
  obtain ⟨hdesc, hleft, hfree⟩ := decodeResponse_of_whole (params := d.between) (c := d.checksum) (rest := rest)
    hh hq hgood (hlength.trans hcnt.symm) (by rw [hrx, packet_drop_five, List.append_assoc]; rfl)
  rw [hheader, responseChecksum_of_packet, if_pos rfl] at hdesc
  have hdata : (overwrite s.desc.data d.between).toList.take (d.len.toNat - 2) = d.between := by
    have := d.len.isLt
    rw [← hlength]
    exact overwrite_take _ _ (by simp only [Config.dataCap]; omega)
  have hwire : (d.packet.drop 5).take (d.len.toNat - 2) = d.between := by
    rw [packet_drop_five, ← hlength, List.take_left]
  have hlast : d.packet.getLast? = some d.checksum := by rw [packet_eq_append, List.getLast?_concat]
  refine ⟨_, rfl, ?_⟩
  rw [hdesc]
  refine ⟨rfl, rfl, rfl, rfl, rfl, hlast, hdata.trans hwire.symm, rfl, rfl, rfl, hleft, hfree,
    fun ha hp hflat => ?_⟩
  have hn : d.nPresent = 0 := by rw [nPresent_eq, if_pos ha, if_pos hp]
  refine hdata.trans ?_
  rw [between_eq, if_pos ha, if_pos hp, payload_of_flat hflat, flatPayload_of_nPresent hn]
  rfl

/-! ## One changed byte -/

/-- A changed header byte, id or length fails its check (R97 to R99). -/
theorem not_headerGood_of_changed {d : Desc} {o : Nat} {b : Byte} {hdr : Vector Byte 5} (h : d.wf = true)
    (ho : o ≤ 3) (hne : d.packet[o]? ≠ some b) (hhdr : hdr.toList = (d.packet.set o b).take 5) :
    ¬ Spec.headerGood hdr d.id (d.len.toNat - 2) := by
  have hmin := nPresent_le_len_of_wf h
  intro hgood
  refine hne ?_
  rw [List.take_set, packet_take_five] at hhdr
  match o, ho with
  | 0, _ =>
    obtain ⟨h0, -⟩ := header_of_toList hhdr ▸ hgood
    exact congrArg some h0.symm
  | 1, _ =>
    obtain ⟨-, h1, -⟩ := header_of_toList hhdr ▸ hgood
    exact congrArg some h1.symm
  | 2, _ =>
    obtain ⟨-, -, h2, -⟩ := header_of_toList hhdr ▸ hgood
    exact congrArg some h2.symm
  | 3, _ =>
    obtain ⟨-, -, -, h3⟩ := header_of_toList hhdr ▸ hgood
    have hvalue : ((b.toNat : Int)) - 2 = ((d.len.toNat - 2 : Nat) : Int) := h3
    exact congrArg some (BitVec.eq_of_toNat_eq (by omega : d.len.toNat = b.toNat))

/-- A byte changed from offset 4 on leaves the four checked header bytes. -/
theorem header_of_changed {d : Desc} {o : Nat} {b : Byte} {hdr : Vector Byte 5} (ho : 4 ≤ o)
    (hhdr : hdr.toList = (d.packet.set o b).take 5) : ∃ instr, hdr = #v[0xFF, 0xFF, d.id, d.len, instr] := by
  rw [List.take_set, packet_take_five] at hhdr
  rcases Nat.eq_or_lt_of_le ho with rfl | hbehind
  · exact ⟨b, header_of_toList hhdr⟩
  · rw [List.set_eq_of_length_le (show 5 ≤ o from hbehind)] at hhdr
    exact ⟨d.instr, header_of_toList hhdr⟩

/-- Settles O19: up to offset 3 the header fails a check; behind it the header is good and the sum of R92 is spoilt
(`byteSum_packet_set_ne`). -/
theorem oneCorruptedByteIsAlwaysDetected : Obligations.OneCorruptedByteIsAlwaysDetected := by
  intro s d rest o b h hh hq ho hne hhdr hid hcnt hrx
  by_cases hsmall : o ≤ 3
  · have hbad : ¬ Spec.headerGood s.hdr s.expId s.expCnt := by
      rw [hid, hcnt]
      exact not_headerGood_of_changed h hsmall hne hhdr
    rw [if_pos hsmall, decodeResponse_of_bad_header hbad]
    rfl
  · obtain ⟨instr, hheader⟩ := header_of_changed (by omega) hhdr
    have hgood : Spec.headerGood s.hdr s.expId s.expCnt := by
      rw [hheader, hid, hcnt]
      exact headerGood_of_wf h instr
    have hlength : (d.packet.set o b).length = s.expCnt + 6 := by
      have := nPresent_le_len_of_wf h
      rw [List.length_set, packet_length_of_wf h]
      omega
    rw [if_neg hsmall, decodeResponse_status_of_bytes hh hq hgood hlength hhdr hrx,
      if_neg (byteSum_packet_set_ne (by omega) ho hne)]

end Sys2Proof.Machine
end

section
/-! SUPPORT. RECEIVE on a quiet channel with the header in front of the receive stream: the first asking finds it, and
DECODE runs on it (spec/41_engine.md R119 to R124). -/

namespace Sys2Proof.Machine

/-! ## The header is there at the first asking -/

theorem exec_receive {n : Nat} {s : State} (hready : s.ready [.sending]) (hn : n ≤ 253) :
    exec (.receive n) s = .next (receiveBody n s) := by
  obtain ⟨hh, hp⟩ := hready
  have hrange : countInRange n = true := decide_eq_true hn
  rw [exec_receive_eq, acceptIn_of _ hh hp, hrange, require_true]

theorem chAvail_of_quiet {s : State} (hq : s.quietChannel = true) : chAvail s = (s.ch.rx.length, { s with
    env := s.env.tail, events := s.events ++ [.avail s.ch.rx.length] }) := by
  obtain ⟨harrive, havail, -⟩ := (quiet_iff _).mp (move_quiet hq 0)
  have hmove : nextMove s = Spec.move s 0 := nextMove_eq s
  simp [chAvail, envTick, emit, hmove, harrive, havail]

/-- A poll whose first asking is answered five or more ends there (R121). -/
theorem poll_of_available (fuel : Nat) {s : State} (h : Config.hdrLen ≤ (chAvail s).1) :
    poll fuel s = (true, (chAvail s).2) := by
  cases fuel with
  | zero => simp only [poll, decide_eq_true h]
  | succ fuel => simp only [poll, if_pos h]

/-- The state in which the header is read: the latches of R119 and one asking. -/
def headerFound (n : Nat) (s : State) : State :=
  { latchReceive n s with env := s.env.tail, events := s.events ++ [.avail s.ch.rx.length] }

theorem headerFound_quiet (n : Nat) {s : State} (hq : s.quietChannel = true) : (headerFound n s).quietChannel = true :=
  quietChannel_of_suffix hq (List.tail_suffix s.env)

/-- The state in which DECODE starts: the header `h` read into `HDR`, taken from the stream and shown to the tap
(R122, R142). -/
def headerReceived (n : Nat) (h : Vector Byte 5) (rest : List Byte) (s : State) : State :=
  { s with
    phase := .receiving, expId := s.desc.id, expCnt := n, pollcnt := 0, hdr := h
    ch := { s.ch with rx := rest }
    env := s.env.drop 2
    events := s.events ++ [.avail s.ch.rx.length, .rx 5 5 h.toList] ++ Spec.tapped s h.toList }

theorem headerReceived_quiet (n : Nat) (h : Vector Byte 5) (rest : List Byte) {s : State}
    (hq : s.quietChannel = true) : (headerReceived n h rest s).quietChannel = true :=
  quietChannel_of_suffix hq (List.drop_suffix 2 s.env)

theorem headerStage_of_header {s : State} {h : Vector Byte 5} {rest : List Byte} (hh : s.hung = none)
    (hq : s.quietChannel = true) (hrx : s.ch.rx = h.toList ++ rest) :
    headerStage s = decodeResponse { s with
      hdr := h, ch := { s.ch with rx := rest }, env := s.env.tail
      events := s.events ++ .rx 5 5 h.toList :: Spec.tapped s h.toList } := by
  have hlength : h.toList.length = 5 := h.length_toList
  have hfetch : fetched 5 s = h.toList := by
    rw [fetched_eq_bytesRead, bytesRead_of_quiet hq, hrx, List.take_left' hlength]
  have hread : afterRead 5 s = { s with
      ch := { s.ch with rx := rest }, env := s.env.tail
      events := s.events ++ .rx 5 5 h.toList :: Spec.tapped s h.toList } := by
    obtain ⟨harrive, -⟩ := (quiet_iff _).mp (move_quiet hq 0)
    have hmove : nextMove s = Spec.move s 0 := nextMove_eq s
    rw [afterRead, hfetch, hmove, harrive, hrx, List.append_nil, List.drop_left, hlength]
    rfl
  rcases headerStage_cases s hh with ⟨hlt, -⟩ | ⟨hlt, -⟩ | ⟨-, e⟩
  · rw [hfetch] at hlt; omega
  · rw [hfetch] at hlt; omega
  · rw [e, hread, hfetch, overwrite_of_length]

/-- RECEIVE of a unicast whose header is there ends as DECODE does on it (R122, R123). -/
theorem receiveBody_of_header (n : Nat) {s : State} {h : Vector Byte 5} {rest : List Byte} (hid : s.desc.id ≠ 254)
    (hh : s.hung = none) (hq : s.quietChannel = true) (hrx : s.ch.rx = h.toList ++ rest) :
    receiveBody n s = decodeResponse (headerReceived n h rest s) := by
  have havail : chAvail (latchReceive n s) = (s.ch.rx.length, headerFound n s) := chAvail_of_quiet hq
  have hthere : Config.hdrLen ≤ (chAvail (latchReceive n s)).1 := by simp [havail, hrx]
  have hpoll := poll_of_available Config.pollMax hthere
  rcases receiveBody_cases n s with ⟨hb, -⟩ | ⟨-, hf, -⟩ | ⟨-, -, e⟩
  · exact absurd hb hid
  · rw [hpoll] at hf; cases hf
  · have henv : s.env.tail.tail = s.env.drop 2 := by rw [← List.drop_one, ← List.drop_one, List.drop_drop]
    rw [e, hpoll, havail, headerStage_of_header (s := headerFound n s) hh (headerFound_quiet n hq) hrx,
      headerReceived, ← henv]
    simp only [headerFound, List.append_assoc, List.cons_append, List.nil_append]
    rfl

theorem receiveBody_phase_of_unicast (n : Nat) {s : State} (hid : s.desc.id ≠ 254) (hh : s.hung = none) :
    (receiveBody n s).phase = .receiving := by
  rcases receiveBody_cases n s with ⟨hb, -⟩ | ⟨-, -, e⟩ | ⟨-, -, e⟩
  · exact absurd hb hid
  · simp [e]
  · obtain ⟨hphase, -⟩ := headerStage_latches (poll Config.pollMax (latchReceive n s)).2 (by simp [hh])
    simp [e, hphase]

/-- Settles O28: DECODE ends at once on the header just read (`decodeResponse_of_bad_header`). -/
theorem receiveOfABadHeader : Obligations.ReceiveOfABadHeader := by
  intro s n h rest hready hid hn hq hrx hbad
  obtain ⟨hh, hp⟩ := hready
  rw [exec_receive ⟨hh, hp⟩ hn, receiveBody_of_header n hid hh hq hrx,
    decodeResponse_of_bad_header (s := headerReceived n h rest s) hbad, captureHeader_eq]
  rfl

/-! ## A response that stops early -/

/-- When no more than the payload stands in the stream, DECODE in a mode that bounds its reads takes all of it and ends
in `COM_ERROR | TIMEOUT`, inside the payload or at the checksum byte (R100, R101). -/
theorem decodeResponse_of_part {s : State} (hh : s.hung = none) (hm : s.params.rxByteMode ≠ .rawUnbounded)
    (hq : s.quietChannel = true) (hgood : Spec.headerGood s.hdr s.expId s.expCnt)
    (hpart : s.ch.rx.length ≤ s.expCnt) :
    (decodeResponse s).desc = { Spec.captured s.desc s.hdr with
        data := overwrite s.desc.data s.ch.rx, status := Flag.comTimeout } ∧
      (decodeResponse s).ch.rx = [] ∧ (decodeResponse s).hung = none := by
  have hpayload : Spec.payload s = s.ch.rx := by rw [payload_of_quiet hq, List.take_of_length_le hpart]
  have hempty : s.ch.rx.drop s.expCnt = [] := List.drop_eq_nil_of_le hpart
  rcases Nat.lt_or_eq_of_le hpart with hlt | heq
  · rw [decodeResponse_of_short_payload hh hm hgood (by rwa [hpayload]), captureHeader_eq, ← hpayload]
    exact ⟨rfl, (afterPayload_of_quiet hq).trans hempty, hh⟩
  · have hnone : Spec.checksumRead s = [] := by rw [checksumRead_of_quiet hq, hempty, List.take_nil]
    rw [decodeResponse_of_no_checksum hh hm hgood (by rw [hpayload, heq]) hnone, captureHeader_eq, ← hpayload]
    exact ⟨rfl, (afterChecksumRead_rx_of_quiet hq).trans (List.drop_eq_nil_of_le (by omega)), hh⟩

/-- The header of a response with `n` parameters passes the checks (R97 to R99). -/
theorem headerGood_of_response {n : Nat} (hn : n ≤ 253) (id st : Byte) :
    Spec.headerGood #v[0xFF, 0xFF, id, BitVec.ofNat 8 (n + 2), st] id n := by
  refine ⟨rfl, rfl, rfl, ?_⟩
  change ((BitVec.ofNat 8 (n + 2)).toNat : Int) - 2 = n
  rw [BitVec.toNat_ofNat]
  omega

/-- Settles O31: `decodeResponse_of_part` after the header, and what DECODE leaves alone (`decodeResponse_frame`). -/
theorem receiveOfAShortResponse : Obligations.ReceiveOfAShortResponse := by
  intro s n st part hready hid hn hpart hq hm hrx
  obtain ⟨hh, hp⟩ := hready
  have hbody := receiveBody_of_header n (h := #v[0xFF, 0xFF, s.desc.id, BitVec.ofNat 8 (n + 2), st]) hid hh hq hrx
  obtain ⟨hdesc, hleft, hfree⟩ := decodeResponse_of_part (s := headerReceived n _ part s) hh hm
    (headerReceived_quiet n _ part hq) (headerGood_of_response hn s.desc.id st) hpart
  rw [← hbody] at hdesc hleft hfree
  have frame := receiveBody_frame n s hh
  exact ⟨receiveBody n s, exec_receive ⟨hh, hp⟩ hn, hfree, receiveBody_phase_of_unicast n hid hh, hleft, hdesc,
    frame.savedCfg, frame.savedValid, frame.dir, frame.cfg⟩

end Sys2Proof.Machine
end

section
/-! SUPPORT. The admission of the commands, and BEGIN, SEND, END, the skipped RECEIVE and the failed TRANSACT as whole
next states, with the moves counted as the statements do (spec/41_engine.md R111 to R116, R120, R127 to R131). -/

namespace Sys2Proof.Machine

/-- Settles O3: `step_of_instr`, with the three outcomes of `afterCommand` written out. -/
theorem stepRunsTheDecodedInstruction : Obligations.StepRunsTheDecodedInstruction := by
  intro s bytes rest inputs i hh hi hd
  rw [step_of_instr hh hi hd]
  cases exec i { s with inputs := inputs } with
  | next t => rfl
  | fault f => rfl
  | refused r => rfl

/-! ## Admission -/

theorem acceptIn_of_stuck (phases : List Phase) {s : State} (run : Host.Outcome State Fault Refusal)
    (hh : s.hung ≠ none) : acceptIn phases s run = .refused .commandRunning := by
  rw [acceptIn, (stuck_iff s).mpr hh, if_pos rfl]

theorem acceptIn_out_of_phase {phases : List Phase} {s : State} (run : Host.Outcome State Fault Refusal)
    (hh : s.hung = none) (hp : s.phase ∉ phases) : acceptIn phases s run = .refused .wrongPhase := by
  rw [acceptIn, not_stuck hh, if_neg Bool.false_ne_true, if_neg hp]

/-- A command whose own run is not refused for the phase is so refused exactly outside its phases (R111). -/
theorem acceptIn_wrongPhase_iff {phase : Phase} {s : State} {run : Host.Outcome State Fault Refusal}
    (hh : s.hung = none) (hrun : run ≠ .refused .wrongPhase) :
    acceptIn [phase] s run = .refused .wrongPhase ↔ s.phase ≠ phase := by
  by_cases hp : s.phase = phase
  · rw [acceptIn_of run hh (List.mem_singleton.mpr hp)]
    exact iff_of_false hrun (not_not_intro hp)
  · rw [acceptIn_out_of_phase run hh (mt List.mem_singleton.mp hp)]
    exact iff_of_true rfl hp

theorem require_ne_wrongPhase {c : Bool} {why : Refusal} {run : Host.Outcome State Fault Refusal}
    (hwhy : why ≠ .wrongPhase) (hrun : run ≠ .refused .wrongPhase) : require c why run ≠ .refused .wrongPhase := by
  cases c with
  | true => exact hrun
  | false => exact fun h => hwhy (Host.Outcome.refused.inj h)

theorem exec_begin_eq (s : State) : exec .beginTxn s =
    acceptIn [.idle] s (.next (setResult (.status (beginBody s).1) (beginBody s).2)) := rfl

theorem exec_end_eq (s : State) : exec .endTxn s = acceptIn anyPhase s (.next (endBody s)) := rfl

/-- Settles O46: each of the eight commands goes through `acceptIn`, which a stuck engine refuses. -/
theorem noCommandIsAcceptedWhileOneRuns : Obligations.NoCommandIsAcceptedWhileOneRuns := by
  intro s n fn ctx i hh hi
  simp only [List.mem_cons, List.not_mem_nil, or_false] at hi
  obtain rfl | rfl | rfl | rfl | rfl | rfl | rfl | rfl := hi <;> exact acceptIn_of_stuck _ _ hh

/-- END is accepted in every phase (R111, R127). -/
theorem exec_end {s : State} (hh : s.hung = none) : exec .endTxn s = .next (endBody s) := by
  rw [exec_end_eq, acceptIn_of _ hh (mem_anyPhase s.phase)]

/-- A command of every phase that asks for a well-formed request is refused for nothing else (R71, R111). -/
theorem refusal_of_requireWf {s : State} {t : State} {r : Refusal} (hh : s.hung = none)
    (h : acceptIn anyPhase s (require s.desc.wf .notWellFormed (.next t)) = .refused r) :
    r = .notWellFormed ∧ s.desc.wf = false := by
  rw [acceptIn_of _ hh (mem_anyPhase s.phase)] at h
  cases hw : s.desc.wf with
  | true => rw [hw, require_true] at h; cases h
  | false => rw [hw, require_false] at h; cases h; exact ⟨rfl, rfl⟩

/-- Settles O42: `acceptIn_wrongPhase_iff` for the commands of one phase, `exec_end`, and `refusal_of_requireWf` for
CHECKSUM and ENCODE. -/
theorem commandsAreRefusedExactlyOutOfPhase : Obligations.CommandsAreRefusedExactlyOutOfPhase := by
  intro s n fn ctx hh
  refine ⟨acceptIn_wrongPhase_iff hh nofun,
    acceptIn_wrongPhase_iff hh (require_ne_wrongPhase nofun nofun),
    acceptIn_wrongPhase_iff hh (require_ne_wrongPhase nofun nofun),
    acceptIn_wrongPhase_iff hh (require_ne_wrongPhase nofun (require_ne_wrongPhase nofun nofun)),
    ⟨endBody s, exec_end hh, endBody_phase s⟩, ⟨_, acceptIn_of _ hh (mem_anyPhase s.phase), ?_⟩,
    fun _ => refusal_of_requireWf hh, fun _ => refusal_of_requireWf hh⟩
  split <;> rfl

/-! ## BEGIN -/

theorem exec_begin {s : State} (hready : s.ready [.idle]) :
    exec .beginTxn s = .next (setResult (.status (beginBody s).1) (beginBody s).2) := by
  obtain ⟨hh, hp⟩ := hready
  rw [exec_begin_eq, acceptIn_of _ hh hp]

/-- Settles O20: `beginBody_applied`, the three moves it uses counted by `drop`. -/
theorem beginReservesTheChannel : Obligations.BeginReservesTheChannel := by
  intro s hready hbus hcfg
  rw [exec_begin hready, beginBody_applied s hbus hcfg]
  simp only [← List.drop_one, List.drop_drop]
  rfl

/-- Settles O21: `beginBody_disabled`. -/
theorem beginFailsFastOnADisabledBus : Obligations.BeginFailsFastOnADisabledBus := by
  intro s hready hbus
  rw [exec_begin hready, beginBody_disabled s hbus]
  rfl

/-- Settles O22: `beginBody_failed`, the four moves it uses counted by `drop`. -/
theorem beginRestoresWhenTheConfigurationFails : Obligations.BeginRestoresWhenTheConfigurationFails := by
  intro s hready hbus hcfg
  rw [exec_begin hready, beginBody_failed s hbus hcfg]
  simp only [← List.drop_one, List.drop_drop]
  rfl

/-! ## SEND and END -/

/-- Settles O23: `sendBody_returns`, with the packet and checksum of R93's and R90's loops. -/
theorem sendTransmitsThePacketOnce : Obligations.SendTransmitsThePacketOnce := by
  intro s hready hw hflush
  obtain ⟨hh, hp⟩ := hready
  rw [exec_send ⟨hh, hp⟩ hw, sendBody_returns s hh hflush, packet_of_wf hw, checksum_eq _ (groups_fit_of_wf hw)]
  simp only [← List.drop_one, List.drop_drop]
  rfl

/-- Settles O25: one equation of `endBody` for each of the three cases. -/
theorem endRestoresWhatBeginSaved : Obligations.EndRestoresWhatBeginSaved := by
  intro s hh
  refine ⟨fun hv hcfg => ?_, fun hv hcfg => ?_, fun hv => ?_⟩ <;> rw [exec_end hh]
  · rw [endBody_restored s hv hcfg, ← List.drop_one]
    rfl
  · rw [endBody_unrestored s hv hcfg, ← List.drop_one]
    rfl
  · rw [endBody_nothing s hv]

/-! ## The skipped RECEIVE and the failed TRANSACT -/

/-- Settles O26: `receiveBody_of_broadcast`. -/
theorem receiveSkipsABroadcast : Obligations.ReceiveSkipsABroadcast := by
  intro s n hready hn hid
  rw [exec_receive hready hn, receiveBody_of_broadcast n hid]
  rfl

theorem exec_transact {n : Nat} {s : State} (hready : s.ready [.idle]) (hw : s.desc.wf = true) (hn : n ≤ 253) :
    exec (.transact n) s = .next (returnStatus (transactBody n s)) := by
  obtain ⟨hh, hp⟩ := hready
  have hrange : countInRange n = true := decide_eq_true hn
  rw [exec_transact_eq, acceptIn_of _ hh hp, hw, require_true, hrange, require_true]

theorem returnStatus_of_returns {s : State} (hh : s.hung = none) :
    returnStatus s = setResult (.status s.desc.status) s := by
  rw [returnStatus, not_stuck hh, if_neg Bool.false_ne_true]

/-- A TRANSACT whose BEGIN fails returns the status of that BEGIN (R129). -/
theorem exec_transact_of_begin_fails {n : Nat} {s : State} (hready : s.ready [.idle]) (hw : s.desc.wf = true)
    (hn : n ≤ 253) (hfail : (beginBody s).1 ≠ Flag.ok) : exec (.transact n) s =
      .next (setResult (.status (beginBody s).1) (setStatus (beginBody s).1 (beginBody s).2)) := by
  have hfree : (setStatus (beginBody s).1 (beginBody s).2).hung = none := (beginBody_hung s).trans hready.1
  rw [exec_transact hready hw hn, transactBody_exit n s hfail, returnStatus_of_returns hfree]
  rfl

/-- Settles O36: `exec_transact_of_begin_fails` for each of the two failures of BEGIN. -/
theorem transactReturnsTheFailureOfBegin : Obligations.TransactReturnsTheFailureOfBegin := by
  intro s n hready hw hn
  refine ⟨fun hbus => ?_, fun hbus hcfg => ?_⟩
  · have hbegin := beginBody_disabled s hbus
    rw [exec_transact_of_begin_fails hready hw hn (by rw [hbegin]; exact show Flag.fail ≠ Flag.ok by decide), hbegin]
    rfl
  · have hbegin := beginBody_failed s hbus hcfg
    rw [exec_transact_of_begin_fails hready hw hn (by rw [hbegin]; exact show Flag.comInternal ≠ Flag.ok by decide),
      hbegin]
    simp only [← List.drop_one, List.drop_drop]
    rfl

end Sys2Proof.Machine
end

section
/-! SUPPORT. The availability poll asking by asking, as whole states, in every channel environment, and RECEIVE of a
header found at any asking (spec/41_engine.md R119 to R125). -/

namespace Sys2Proof.Machine

/-! ## The poll, asking by asking -/

/-- The state of a poll after `j` askings, each answered below five and followed by its sleep (R121). -/
def afterSleeps (s : State) (j : Nat) : State :=
  { s with
    pollcnt := s.pollcnt + j
    ch := { s.ch with rx := s.ch.rx ++ (List.range (2 * j)).flatMap fun i => (Spec.move s i).arrive }
    env := s.env.drop (2 * j)
    events := s.events ++ (List.range j).flatMap fun i => [Event.avail (Spec.answerAt s i), .sleep 100] }

/-- The state after the asking that ends a poll with `j` sleeps. -/
def afterAskings (s : State) (j : Nat) : State :=
  { s with
    pollcnt := s.pollcnt + j
    ch := { s.ch with rx := Spec.queueAt s (2 * j) }
    env := s.env.drop (2 * j + 1)
    events := s.events ++ ((List.range j).flatMap fun i => [Event.avail (Spec.answerAt s i), .sleep 100])
      ++ [.avail (Spec.answerAt s j)] }

theorem afterSleeps_zero (s : State) : afterSleeps s 0 = s := by simp [afterSleeps]

/-- The arrivals of one more move stand at the end of the queue. -/
theorem queueAt_eq (s : State) (k : Nat) : Spec.queueAt s k =
    (s.ch.rx ++ (List.range k).flatMap fun i => (Spec.move s i).arrive) ++ (Spec.move s k).arrive := by
  simp [Spec.queueAt, List.range_succ]

theorem nextMove_drop (s : State) (k : Nat) {t : State} (h : t.env = s.env.drop k) : nextMove t = Spec.move s k := by
  simp [nextMove_eq, Spec.move, h]

theorem chAvail_snd (s : State) : (chAvail s).2 = { s with
    ch := { s.ch with rx := s.ch.rx ++ (nextMove s).arrive }, env := s.env.tail
    events := s.events ++ [.avail (chAvail s).1] } := rfl

theorem chAvail_afterSleeps (s : State) (j : Nat) :
    chAvail (afterSleeps s j) = (Spec.answerAt s j, afterAskings s j) := by
  have hmove : nextMove (afterSleeps s j) = Spec.move s (2 * j) := nextMove_drop s (2 * j) rfl
  have hanswer : (chAvail (afterSleeps s j)).1 = Spec.answerAt s j := by
    rw [chAvail_fst, hmove, Spec.answerAt, queueAt_eq]
    rfl
  have henv : (afterSleeps s j).env.tail = s.env.drop (2 * j + 1) := List.tail_drop
  refine Prod.ext hanswer ?_
  rw [chAvail_snd, hanswer, hmove, henv, afterAskings, queueAt_eq]
  rfl

theorem pollSleep_afterAskings (s : State) (j : Nat) : pollSleep (afterAskings s j) = afterSleeps s (j + 1) := by
  have hmove : nextMove (afterAskings s j) = Spec.move s (2 * j + 1) := nextMove_drop s (2 * j + 1) rfl
  have harrive : (List.range (2 * (j + 1))).flatMap (fun i => (Spec.move s i).arrive) =
      (List.range (2 * j + 1)).flatMap (fun i => (Spec.move s i).arrive) ++ (Spec.move s (2 * j + 1)).arrive := by
    simp [Nat.mul_succ, List.range_succ]
  have hevents : (List.range (j + 1)).flatMap (fun i => [Event.avail (Spec.answerAt s i), .sleep 100]) =
      (List.range j).flatMap (fun i => [Event.avail (Spec.answerAt s i), .sleep 100]) ++
        [.avail (Spec.answerAt s j), .sleep 100] := by
    simp [List.range_succ]
  have henv : (afterAskings s j).env.tail = s.env.drop (2 * (j + 1)) := List.tail_drop
  simp only [pollSleep, emit, envTick, hmove, henv, afterSleeps, harrive, hevents]
  simp [afterAskings, Spec.queueAt, Config.pollUs, Nat.add_assoc]

theorem poll_succ_of_below {fuel : Nat} {s : State} (h : (chAvail s).1 < Config.hdrLen) :
    poll (fuel + 1) s = poll fuel (pollSleep (chAvail s).2) := by
  simp only [poll, if_neg (Nat.not_le.mpr h)]

/-- Askings answered below five leave a poll with fewer sleeps to go. -/
theorem poll_skip {fuel : Nat} {s : State} (j : Nat) (hj : j ≤ fuel) (h : ∀ i, i < j → Spec.answerAt s i < 5) :
    poll fuel s = poll (fuel - j) (afterSleeps s j) := by
  induction j with
  | zero => rw [afterSleeps_zero, Nat.sub_zero]
  | succ j ih =>
    have hbelow : (chAvail (afterSleeps s j)).1 < Config.hdrLen := by
      rw [chAvail_afterSleeps]; exact h j (Nat.lt_succ_self j)
    have hfuel : fuel - j = fuel - (j + 1) + 1 := by omega
    rw [ih (by omega) fun i hi => h i (Nat.lt_succ_of_lt hi), hfuel, poll_succ_of_below hbelow, chAvail_afterSleeps,
      pollSleep_afterAskings]

/-- The poll ends at the first asking that is answered five or more (R121, R125). -/
theorem poll_of_found {fuel j : Nat} {s : State} (hj : j ≤ fuel) (hbelow : ∀ i, i < j → Spec.answerAt s i < 5)
    (hfound : 5 ≤ Spec.answerAt s j) : poll fuel s = (true, afterAskings s j) := by
  have hthere : Config.hdrLen ≤ (chAvail (afterSleeps s j)).1 := by rw [chAvail_afterSleeps]; exact hfound
  rw [poll_skip j hj hbelow, poll_of_available _ hthere, chAvail_afterSleeps]

/-- The poll fails when all its askings, one more than its sleeps, are answered below five (R121, R125). -/
theorem poll_of_not_found {fuel : Nat} {s : State} (hbelow : ∀ i, i ≤ fuel → Spec.answerAt s i < 5) :
    poll fuel s = (false, afterAskings s fuel) := by
  have hlast : ¬ Config.hdrLen ≤ Spec.answerAt s fuel := Nat.not_le.mpr (hbelow fuel (Nat.le_refl fuel))
  rw [poll_skip fuel (Nat.le_refl fuel) fun i hi => hbelow i (Nat.le_of_lt hi), Nat.sub_self]
  simp only [poll, chAvail_afterSleeps, decide_eq_false hlast]

/-! ## RECEIVE after the poll -/

theorem receiveBody_of_not_found {n : Nat} {s : State} (hid : s.desc.id ≠ 254)
    (hbelow : ∀ i, i ≤ 100 → Spec.answerAt s i < 5) :
    receiveBody n s = setStatus Flag.comTimeout (afterAskings (latchReceive n s) 100) := by
  have hpoll : poll Config.pollMax (latchReceive n s) = _ := poll_of_not_found hbelow
  rcases receiveBody_cases n s with ⟨hb, -⟩ | ⟨-, -, e⟩ | ⟨-, ht, -⟩
  · exact absurd hb hid
  · rw [e, hpoll]; rfl
  · rw [hpoll] at ht; cases ht

theorem receiveBody_of_found {n j : Nat} {s : State} (hid : s.desc.id ≠ 254) (hj : j ≤ 100)
    (hbelow : ∀ i, i < j → Spec.answerAt s i < 5) (hfound : 5 ≤ Spec.answerAt s j) :
    receiveBody n s = headerStage (afterAskings (latchReceive n s) j) := by
  have hpoll : poll Config.pollMax (latchReceive n s) = _ := poll_of_found hj hbelow hfound
  rcases receiveBody_cases n s with ⟨hb, -⟩ | ⟨-, hf, -⟩ | ⟨-, -, e⟩
  · exact absurd hb hid
  · rw [hpoll] at hf; cases hf
  · rw [e, hpoll]

theorem fetched_afterAskings (s : State) (n j : Nat) :
    fetched 5 (afterAskings (latchReceive n s) j) = Spec.headerRead s j := by
  rw [fetched, nextMove_drop (t := afterAskings (latchReceive n s) j) s (2 * j + 1) rfl]
  rfl

/-- The header read after the poll leaves the state of the statements (R122, R142). -/
theorem afterRead_afterAskings (s : State) (n j : Nat) :
    afterRead 5 (afterAskings (latchReceive n s) j) = Spec.afterHeaderRead s n j := by
  have henv : (afterAskings (latchReceive n s) j).env.tail = s.env.drop (2 * j + 2) := List.tail_drop
  have hmove : nextMove (afterAskings (latchReceive n s) j) = Spec.move s (2 * j + 1) :=
    nextMove_drop s (2 * j + 1) rfl
  rw [afterRead, fetched_afterAskings, henv, hmove]
  simp only [afterAskings, latchReceive_pollcnt, Nat.zero_add, List.append_assoc, List.singleton_append]
  simp only [Spec.afterHeaderRead, List.append_assoc, List.cons_append, List.nil_append]
  rfl

/-! ## A header found at any asking -/

/-- DECODE ends in the outcome of R103's table, in every mode that bounds its reads. -/
theorem decodeResponse_eq_decoded {s : State} (hh : s.hung = none) (hm : s.params.rxByteMode ≠ .rawUnbounded) :
    decodeResponse s = Spec.decoded s := by
  obtain ⟨hbad, hpayload, hone, hshort, hnone, hbyte⟩ := decodeEndsInOneOfTheOutcomesOfTheTable s hh hm
  unfold Spec.decoded
  split
  next hgood =>
    split
    next hlt => exact hshort hgood hlt
    next hlt =>
      have hwhole : (Spec.payload s).length = s.expCnt := by omega
      match hc : Spec.checksumRead s with
      | [] => rw [hnone hgood hwhole hc, tapped_nil]; rfl
      | [c] => exact hbyte c hgood hwhole hc
      | _ :: _ :: _ => simp [hc] at hone
  next hfail => exact hbad hfail

theorem receiveBody_of_found_short {n j : Nat} {s : State} (hh : s.hung = none)
    (hm : s.params.rxByteMode ≠ .rawUnbounded) (hid : s.desc.id ≠ 254) (hj : j ≤ 100)
    (hbelow : ∀ i, i < j → Spec.answerAt s i < 5) (hfound : 5 ≤ Spec.answerAt s j)
    (hshort : (Spec.headerRead s j).length < 5) :
    receiveBody n s = setStatus Flag.comTimeout (Spec.afterHeaderRead s n j) := by
  rw [receiveBody_of_found hid hj hbelow hfound]
  rcases headerStage_cases (afterAskings (latchReceive n s) j) hh with ⟨-, hm', -⟩ | ⟨-, -, e⟩ | ⟨hl, -⟩
  · exact absurd hm' hm
  · rw [e, afterRead_afterAskings]
  · rw [fetched_afterAskings] at hl; omega

theorem receiveBody_of_found_header {n j : Nat} {s : State} {h : Vector Byte 5} (hh : s.hung = none)
    (hid : s.desc.id ≠ 254) (hj : j ≤ 100) (hbelow : ∀ i, i < j → Spec.answerAt s i < 5)
    (hfound : 5 ≤ Spec.answerAt s j) (hheader : Spec.headerRead s j = h.toList) :
    receiveBody n s = decodeResponse { Spec.afterHeaderRead s n j with hdr := h } := by
  have hfetch : fetched 5 (afterAskings (latchReceive n s) j) = h.toList := by rw [fetched_afterAskings, hheader]
  have hlength : h.toList.length = 5 := h.length_toList
  rw [receiveBody_of_found hid hj hbelow hfound]
  rcases headerStage_cases (afterAskings (latchReceive n s) j) hh with ⟨hl, -⟩ | ⟨hl, -⟩ | ⟨-, e⟩
  · rw [hfetch] at hl; omega
  · rw [hfetch] at hl; omega
  · rw [e, afterRead_afterAskings, hfetch, overwrite_of_length]

/-- Settles O60: the poll ends at the `j`-th asking (`poll_of_found`), and the header read is short
(`receiveBody_of_found_short`) or gives the header that DECODE runs on (`receiveBody_of_found_header`). -/
theorem receiveOfAHeaderFoundAtAnyAsking : Obligations.ReceiveOfAHeaderFoundAtAnyAsking := by
  intro s n j hready hid hn hj hbelow hfound
  obtain ⟨hh, hp⟩ := hready
  rw [exec_receive ⟨hh, hp⟩ hn]
  refine ⟨fun hm hshort => ?_, fun h hheader => ?_⟩
  · rw [receiveBody_of_found_short hh hm hid hj hbelow hfound hshort]
    rfl
  · rw [receiveBody_of_found_header hh hid hj hbelow hfound hheader]
    exact ⟨rfl, fun hm => congrArg _ (decodeResponse_eq_decoded hh hm)⟩

/-! ## No header -/

theorem queueAt_of_quiet {s : State} (hq : s.quietChannel = true) (k : Nat) : Spec.queueAt s k = s.ch.rx := by
  have harrive (i : Nat) : (Spec.move s i).arrive = [] := ((quiet_iff _).mp (move_quiet hq i)).left
  simp [Spec.queueAt, harrive]

/-- On a quiet channel every asking is answered with the bytes that are there (R174 (b)). -/
theorem answerAt_of_quiet {s : State} (hq : s.quietChannel = true) (j : Nat) :
    Spec.answerAt s j = s.ch.rx.length := by
  obtain ⟨-, havail, -⟩ := (quiet_iff _).mp (move_quiet hq (2 * j))
  rw [Spec.answerAt, havail, queueAt_of_quiet hq]
  rfl

theorem flatMap_replicate_shift (a b : Event) (k : Nat) :
    ((List.range k).flatMap fun _ => [a, b]) ++ [a] = a :: (List.replicate k [b, a]).flatten := by
  induction k with
  | zero => rfl
  | succ k ih =>
    have hmore := congrArg (· ++ [b, a]) ih
    simpa [List.range_succ, List.replicate_succ'] using hmore

/-- Settles O29: `receiveBody_of_not_found`, where every answer is the number of bytes that are there. -/
theorem receiveTimesOutWithoutAHeader : Obligations.ReceiveTimesOutWithoutAHeader := by
  intro s n hready hid hn hq hfew
  have hanswer (i : Nat) : Spec.answerAt s i = s.ch.rx.length := answerAt_of_quiet hq i
  have hanswer' (i : Nat) : Spec.answerAt (latchReceive n s) i = s.ch.rx.length := hanswer i
  have hrx : Spec.queueAt (latchReceive n s) (2 * 100) = s.ch.rx := queueAt_of_quiet hq _
  rw [exec_receive hready hn, receiveBody_of_not_found hid fun i _ => by rw [hanswer]; exact hfew, afterAskings, hrx]
  simp only [hanswer', List.append_assoc, flatMap_replicate_shift]
  rfl

end Sys2Proof.Machine
end

section
/-! SUPPORT. How RECEIVE ends in every channel environment: when the poll times out, the values of `STATUS`, where it is
stuck, and how many askings, sleeps and reads it makes (spec/41_engine.md R121, R124 to R126, R131). -/

namespace Sys2Proof.Machine

/-! ## The events of the poll -/

/-- The events of a poll with `j` sleeps: each asking but the last is followed by a sleep (R121). -/
def pollEvents (s : State) (j : Nat) : List Event :=
  ((List.range j).flatMap fun i => [Event.avail (Spec.answerAt s i), .sleep 100]) ++ [.avail (Spec.answerAt s j)]

theorem afterAskings_events (s : State) (j : Nat) : (afterAskings s j).events = s.events ++ pollEvents s j :=
  List.append_assoc ..

/-- An asking in the history is one of the poll's. -/
theorem avail_mem_pollEvents {s : State} {j a : Nat} :
    Event.avail a ∈ pollEvents s j ↔ ∃ i, i ≤ j ∧ a = Spec.answerAt s i := by
  simp only [pollEvents, List.mem_append, List.mem_flatMap, List.mem_range, List.mem_cons, List.not_mem_nil, or_false,
    Event.avail.injEq, reduceCtorEq]
  constructor
  · rintro (⟨i, hi, e⟩ | e)
    · exact ⟨i, Nat.le_of_lt hi, e⟩
    · exact ⟨j, Nat.le_refl j, e⟩
  · rintro ⟨i, hi, e⟩
    rcases Nat.lt_or_eq_of_le hi with hlt | rfl
    · exact .inl ⟨i, hlt, e⟩
    · exact .inr e

/-- Each sleep of the poll comes with an asking, and one asking more ends it. -/
theorem countP_pollEvents {p : Event → Bool} {isAvail isSleep : Bool} (havail : ∀ a, p (.avail a) = isAvail)
    (hsleep : p (.sleep 100) = isSleep) (s : State) (j : Nat) :
    (pollEvents s j).countP p = j * (isAvail.toNat + isSleep.toNat) + isAvail.toNat := by
  have hpair (a : Nat) : [Event.avail a, .sleep 100].countP p = isAvail.toNat + isSleep.toNat := by
    cases isAvail <;> cases isSleep <;> simp [havail, hsleep]
  have hlast (a : Nat) : [Event.avail a].countP p = isAvail.toNat := by
    cases isAvail <;> simp [havail]
  have hfront : ((List.range j).flatMap fun i => [Event.avail (Spec.answerAt s i), .sleep 100]).countP p =
      j * (isAvail.toNat + isSleep.toNat) := by
    induction j with
    | zero => simp
    | succ j ih => simp only [List.range_succ, List.flatMap_append, List.flatMap_singleton, List.countP_append, ih,
        hpair, Nat.succ_mul]
  rw [pollEvents, List.countP_append, hfront, hlast]

theorem countP_isAvail_pollEvents (s : State) (j : Nat) : (pollEvents s j).countP Event.isAvail = j + 1 := by
  rw [countP_pollEvents (isAvail := true) (isSleep := false) (fun _ => rfl) rfl]
  simp

theorem countP_isSleep_pollEvents (s : State) (j : Nat) : (pollEvents s j).countP Event.isSleep = j := by
  rw [countP_pollEvents (isAvail := false) (isSleep := true) (fun _ => rfl) rfl]
  simp

theorem countP_isRx_pollEvents (s : State) (j : Nat) : (pollEvents s j).countP Event.isRx = 0 := by
  rw [countP_pollEvents (isAvail := false) (isSleep := false) (fun _ => rfl) rfl]
  simp

/-- The poll of a unicast RECEIVE ends at some asking: it fails after 100 sleeps, or the header stage runs (R121). -/
theorem receiveBody_unicast_cases (n : Nat) {s : State} (hid : s.desc.id ≠ 254) :
    ((∀ i, i ≤ 100 → Spec.answerAt s i < 5) ∧
      receiveBody n s = setStatus Flag.comTimeout (afterAskings (latchReceive n s) 100)) ∨
    (∃ j, j ≤ 100 ∧ 5 ≤ Spec.answerAt s j ∧ receiveBody n s = headerStage (afterAskings (latchReceive n s) j)) := by
  by_cases hfound : ∃ j, j ≤ 100 ∧ 5 ≤ Spec.answerAt s j
  · obtain ⟨hj, hthere⟩ := Nat.find_spec hfound
    refine .inr ⟨Nat.find hfound, hj, hthere, receiveBody_of_found hid hj (fun i hi => ?_) hthere⟩
    have hbefore := Nat.find_min hfound hi
    omega
  · have hbelow (i : Nat) (hi : i ≤ 100) : Spec.answerAt s i < 5 := by
      by_contra hge
      exact hfound ⟨i, hi, Nat.not_lt.mp hge⟩
    exact .inl ⟨hbelow, receiveBody_of_not_found hid hbelow⟩

/-! ## The events of the reads -/

/-- The header stage is stuck, or its history holds the header read (R122, R126). -/
theorem headerStage_reads (s : State) (hh : s.hung = none) :
    ∃ new, (headerStage s).events = s.events ++ new ∧
      (1 ≤ new.countP Event.isRx ∨ (headerStage s).hung = some .rawRead) := by
  rcases headerStage_cases s hh with ⟨-, -, e⟩ | ⟨-, -, e⟩ | ⟨-, e⟩ <;> rw [e]
  · exact ⟨[], (List.append_nil _).symm, .inr rfl⟩
  · exact ⟨_, rfl, .inl (by simp [Event.isRx])⟩
  · obtain ⟨new, hnew, -⟩ := decodeResponse_appends { afterRead 5 s with hdr := overwrite s.hdr (fetched 5 s) } hh
    refine ⟨_, hnew.trans (List.append_assoc ..), .inl ?_⟩
    simp [Event.isRx]

/-- Settles O30: `receiveBody_unicast_cases`; a poll that ends with an answer of five or more is followed by the header
read (`headerStage_reads`). -/
theorem timeoutExactlyWhenNoAskingSawAHeader : Obligations.TimeoutExactlyWhenNoAskingSawAHeader := by
  intro s n hready hid hn
  rw [exec_receive hready hn]
  rcases receiveBody_unicast_cases n hid with ⟨hbelow, e⟩ | ⟨j, hj, hfound, e⟩
  · refine ⟨_, pollEvents (latchReceive n s) 100, congrArg _ e, afterAskings_events .., fun _ => ?_, ?_⟩
    · exact ⟨rfl, rfl, rfl, hready.1, countP_isAvail_pollEvents .., countP_isSleep_pollEvents ..,
        countP_isRx_pollEvents ..⟩
    · rintro ⟨a, hmem, hge⟩
      obtain ⟨i, hi, rfl⟩ := avail_mem_pollEvents.mp hmem
      exact absurd (hbelow i hi) (Nat.not_lt.mpr hge)
  · obtain ⟨new, hnew, hread⟩ := headerStage_reads (afterAskings (latchReceive n s) j) hready.1
    rw [afterAskings_events, List.append_assoc] at hnew
    refine ⟨_, _, congrArg _ e, hnew, fun hall => ?_, fun _ => hread.imp_left fun hrx => ?_⟩
    · have hmem : Event.avail (Spec.answerAt s j) ∈ pollEvents (latchReceive n s) j ++ new :=
        List.mem_append_left _ (avail_mem_pollEvents.mpr ⟨j, Nat.le_refl j, rfl⟩)
      exact absurd hfound (Nat.not_le.mpr (hall _ hmem))
    · rw [List.countP_append]; omega

/-! ## How many reads -/

section Counts

variable {p : Event → Bool} {k : Nat}

/-- Each read with its delivery adds at most `k` events of the kind `p` to the history. -/
def ReadAddsAtMost (p : Event → Bool) (k : Nat) : Prop :=
  ∀ (n : Nat) (s : State), (afterRead n s).events.countP p ≤ s.events.countP p + k

theorem checksumStage_countP (hread : ReadAddsAtMost p k) (s : State) (hh : s.hung = none) :
    (checksumStage s).events.countP p ≤ s.events.countP p + k := by
  rcases checksumStage_cases s hh with ⟨-, -, e⟩ | ⟨-, -, e⟩ | ⟨c, -, e⟩ <;> rw [e]
  · exact Nat.le_add_right _ _
  · exact hread 1 s
  · exact hread 1 s

theorem payloadStage_countP (hread : ReadAddsAtMost p k) (s : State) (hh : s.hung = none) :
    (payloadStage s).events.countP p ≤ s.events.countP p + 2 * k := by
  have hpayload := hread s.expCnt s
  rcases payloadStage_cases s hh with ⟨-, e⟩ | ⟨-, -, -, e⟩ | ⟨-, -, -, e⟩ | ⟨-, -, e⟩ <;> rw [e]
  · have := checksumStage_countP hread s hh
    omega
  · exact Nat.le_add_right _ _
  · exact hpayload.trans (by omega)
  · have hrest : _ ≤ (afterRead s.expCnt s).events.countP p + k :=
      checksumStage_countP hread (setData (fetched s.expCnt s) (afterRead s.expCnt s)) hh
    omega

theorem headerStage_countP (hread : ReadAddsAtMost p k) (s : State) (hh : s.hung = none) :
    (headerStage s).events.countP p ≤ s.events.countP p + 3 * k := by
  have hheader := hread 5 s
  rcases headerStage_cases s hh with ⟨-, -, e⟩ | ⟨-, -, e⟩ | ⟨-, e⟩ <;> rw [e]
  · exact Nat.le_add_right _ _
  · exact hheader.trans (by omega)
  · rcases decodeResponse_cases { afterRead 5 s with hdr := overwrite s.hdr (fetched 5 s) } with ⟨-, e⟩ | ⟨-, e⟩ <;>
      rw [e]
    · exact hheader.trans (by omega)
    · have hrest : _ ≤ (afterRead 5 s).events.countP p + 2 * k :=
        payloadStage_countP hread (captureHeader { afterRead 5 s with hdr := overwrite s.hdr (fetched 5 s) }) hh
      omega

/-- A read adds its own event, and one delivery when a subscriber gets its bytes (R44, R142). -/
theorem readAddsAtMost_of (hrx : ∀ n m bs, (p (.rx n m bs)).toNat = k)
    (htap : ∀ fn ctx bs, p (.tap fn ctx bs) = false) : ReadAddsAtMost p k := by
  intro n s
  have hread := hrx n (fetched n s).length (fetched n s)
  rw [afterRead, List.countP_append, List.countP_cons, ← hread, deliveries]
  split <;> cases p (.rx n (fetched n s).length (fetched n s)) <;> simp [htap]

end Counts

/-- RECEIVE appends only its own kinds of events: at most 101 askings, 100 sleeps and three reads (R121, R131). -/
theorem receiveBody_bounds (n : Nat) (s : State) (hh : s.hung = none) :
    ∃ new, (receiveBody n s).events = s.events ++ new ∧ (∀ e ∈ new, Spec.isReceiveEvent e = true) ∧
      new.countP Event.isAvail ≤ 101 ∧ new.countP Event.isSleep ≤ 100 ∧ new.countP Event.isRx ≤ 3 := by
  by_cases hid : s.desc.id = 254
  · exact ⟨[], by rw [receiveBody_of_broadcast n hid, List.append_nil]; rfl, by simp⟩
  obtain ⟨new, hnew, hkind⟩ := receiveBody_appends n s hh
  refine ⟨new, hnew, hkind, ?_⟩
  rcases receiveBody_unicast_cases n hid with ⟨-, e⟩ | ⟨j, hj, -, e⟩
  · have hpoll : s.events ++ pollEvents (latchReceive n s) 100 = s.events ++ new := by
      rw [← hnew, e, ← latchReceive_events n s, ← afterAskings_events]; rfl
    rw [← List.append_cancel_left hpoll, countP_isAvail_pollEvents, countP_isSleep_pollEvents, countP_isRx_pollEvents]
    omega
  · have hcount (p : Event → Bool) : (headerStage (afterAskings (latchReceive n s) j)).events.countP p =
        s.events.countP p + new.countP p := by rw [← e, hnew, List.countP_append]
    have hpoll (p : Event → Bool) : (afterAskings (latchReceive n s) j).events.countP p =
        s.events.countP p + (pollEvents (latchReceive n s) j).countP p := by
      rw [afterAskings_events, latchReceive_events, List.countP_append]
    have havail := headerStage_countP (p := Event.isAvail) (k := 0)
      (readAddsAtMost_of (fun _ _ _ => rfl) fun _ _ _ => rfl) (afterAskings (latchReceive n s) j) hh
    have hsleep := headerStage_countP (p := Event.isSleep) (k := 0)
      (readAddsAtMost_of (fun _ _ _ => rfl) fun _ _ _ => rfl) (afterAskings (latchReceive n s) j) hh
    have hrx := headerStage_countP (p := Event.isRx) (k := 1)
      (readAddsAtMost_of (fun _ _ _ => rfl) fun _ _ _ => rfl) (afterAskings (latchReceive n s) j) hh
    rw [hcount, hpoll, countP_isAvail_pollEvents] at havail
    rw [hcount, hpoll, countP_isSleep_pollEvents] at hsleep
    rw [hcount, hpoll, countP_isRx_pollEvents] at hrx
    omega

/-! ## The values of `STATUS` -/

/-- The values of `STATUS` a RECEIVE that returns can leave (R124). -/
def receiveStatus (status : Byte) : Prop :=
  status = Flag.ok ∨ status = Flag.comError ∨ status = Flag.comTimeout ∨ status = Flag.checksumError

/-- Between `s` and `t` the engine returned with a status of RECEIVE, or got stuck in a raw read and wrote none. -/
def ReturnsOrSticks (s t : State) : Prop :=
  (t.hung = none ∧ receiveStatus t.desc.status) ∨
    (t.hung = some .rawRead ∧ s.params.rxByteMode = .rawUnbounded ∧ t.desc.status = s.desc.status)

theorem checksumStage_returnsOrSticks (s : State) (hh : s.hung = none) : ReturnsOrSticks s (checksumStage s) := by
  rcases checksumStage_cases s hh with ⟨-, hm, e⟩ | ⟨-, -, e⟩ | ⟨c, -, e⟩ <;> rw [e]
  · exact .inr ⟨rfl, hm, rfl⟩
  · exact .inl ⟨hh, .inr (.inr (.inl rfl))⟩
  · refine .inl ⟨hh, ?_⟩
    unfold checkChecksum
    split
    · exact .inl rfl
    · exact .inr (.inr (.inr rfl))

theorem payloadStage_returnsOrSticks (s : State) (hh : s.hung = none) : ReturnsOrSticks s (payloadStage s) := by
  rcases payloadStage_cases s hh with ⟨-, e⟩ | ⟨-, -, hm, e⟩ | ⟨-, -, -, e⟩ | ⟨-, -, e⟩ <;> rw [e]
  · exact checksumStage_returnsOrSticks s hh
  · exact .inr ⟨rfl, hm, rfl⟩
  · exact .inl ⟨hh, .inr (.inr (.inl rfl))⟩
  · exact checksumStage_returnsOrSticks (setData (fetched s.expCnt s) (afterRead s.expCnt s)) hh

theorem headerStage_returnsOrSticks (s : State) (hh : s.hung = none) : ReturnsOrSticks s (headerStage s) := by
  rcases headerStage_cases s hh with ⟨-, hm, e⟩ | ⟨-, -, e⟩ | ⟨-, e⟩ <;> rw [e]
  · exact .inr ⟨rfl, hm, rfl⟩
  · exact .inl ⟨hh, .inr (.inr (.inl rfl))⟩
  · rcases decodeResponse_cases { afterRead 5 s with hdr := overwrite s.hdr (fetched 5 s) } with ⟨-, e⟩ | ⟨-, e⟩ <;>
      rw [e]
    · exact .inl ⟨hh, .inr (.inl rfl)⟩
    · exact payloadStage_returnsOrSticks (captureHeader { afterRead 5 s with hdr := overwrite s.hdr (fetched 5 s) }) hh

theorem receiveBody_returnsOrSticks (n : Nat) (s : State) (hh : s.hung = none) :
    ReturnsOrSticks s (receiveBody n s) := by
  by_cases hid : s.desc.id = 254
  · rw [receiveBody_of_broadcast n hid]
    exact .inl ⟨hh, .inl rfl⟩
  rcases receiveBody_unicast_cases n hid with ⟨-, e⟩ | ⟨j, -, -, e⟩ <;> rw [e]
  · exact .inl ⟨hh, .inr (.inr (.inl rfl))⟩
  · exact headerStage_returnsOrSticks (afterAskings (latchReceive n s) j) hh

/-- Settles O33: `receiveBody_bounds` for the events and `receiveBody_returnsOrSticks` for `STATUS`. -/
theorem receiveEndsWithinItsBounds : Obligations.ReceiveEndsWithinItsBounds := by
  intro s n hready hn
  obtain ⟨hh, hp⟩ := hready
  obtain ⟨new, hnew, hbounds⟩ := receiveBody_bounds n s hh
  have hphase : (receiveBody n s).phase = if s.desc.id = 254 then .sending else .receiving := by
    split
    next hid => rw [receiveBody_of_broadcast n hid]; exact List.mem_singleton.mp hp
    next hid => exact receiveBody_phase_of_unicast n hid hh
  have hends := receiveBody_returnsOrSticks n s hh
  have hfree (h : (receiveBody n s).hung = none) : receiveStatus (receiveBody n s).desc.status := by
    rcases hends with ⟨-, hstatus⟩ | ⟨hstuck, -⟩
    · exact hstatus
    · rw [h] at hstuck; cases hstuck
  have hstuck (h : (receiveBody n s).hung ≠ none) := hends.resolve_left fun hret => h hret.1
  exact ⟨_, new, exec_receive ⟨hh, hp⟩ hn, hnew, hfree, hstuck, hphase, hbounds⟩

/-! ## A short response in `RAW_UNBOUNDED` mode -/

/-- With no more than the payload in the stream, DECODE in `RAW_UNBOUNDED` mode is stuck in the payload read or in the
checksum read (R126). -/
theorem decodeResponse_stuck_of_part {s : State} (hh : s.hung = none) (hm : s.params.rxByteMode = .rawUnbounded)
    (hq : s.quietChannel = true) (hgood : Spec.headerGood s.hdr s.expId s.expCnt)
    (hpart : s.ch.rx.length ≤ s.expCnt) : (decodeResponse s).hung = some .rawRead := by
  have hpayload : Spec.payload s = s.ch.rx := by rw [payload_of_quiet hq, List.take_of_length_le hpart]
  have hnone : Spec.checksumRead s = [] := by
    rw [checksumRead_of_quiet hq, List.drop_eq_nil_of_le hpart, List.take_nil]
  have hchecksum : (checksumStage (afterPayloadRead (captureHeader s))).hung = some .rawRead := by
    rcases checksumStage_cases (afterPayloadRead (captureHeader s)) hh with ⟨-, -, e⟩ | ⟨-, hm', -⟩ | ⟨c, hf, -⟩
    · rw [e]; rfl
    · exact absurd hm hm'
    · rw [fetched_one_afterPayloadRead] at hf
      exact absurd (hnone.symm.trans hf) nofun
  rw [decodeResponse_of_good_header hgood]
  rcases payloadStage_cases (captureHeader s) hh with ⟨h0, -⟩ | ⟨-, -, -, e⟩ | ⟨-, -, hm', -⟩ | ⟨h0, hwhole, -⟩
  · have hwhole : (Spec.payload (captureHeader s)).length = (captureHeader s).expCnt :=
      Nat.le_antisymm (payload_length_le _) (h0.trans_le (Nat.zero_le _))
    rw [payloadStage_of_whole (s := captureHeader s) hh hwhole, hchecksum]
  · rw [e]; rfl
  · exact absurd hm hm'
  · rw [fetched_of_pos h0] at hwhole
    rw [payloadStage_of_whole (s := captureHeader s) hh hwhole, hchecksum]

/-- Settles O32: `decodeResponse_stuck_of_part` after the header; a stuck RECEIVE wrote no status
(`receiveBody_returnsOrSticks`). -/
theorem shortResponseHangsTheUnboundedRead : Obligations.ShortResponseHangsTheUnboundedRead := by
  intro s n st part hready hid hn hpart hq hm hrx
  obtain ⟨hh, hp⟩ := hready
  have hstuck : (receiveBody n s).hung = some .rawRead := by
    rw [receiveBody_of_header n (h := #v[0xFF, 0xFF, s.desc.id, BitVec.ofNat 8 (n + 2), st]) hid hh hq hrx]
    exact decodeResponse_stuck_of_part (s := headerReceived n _ part s) hh hm (headerReceived_quiet n _ part hq)
      (headerGood_of_response hn s.desc.id st) hpart
  have hne : (receiveBody n s).hung ≠ none := by simp [hstuck]
  obtain ⟨-, -, hstatus⟩ := (receiveBody_returnsOrSticks n s hh).resolve_left fun hret => hne hret.1
  have frame := receiveBody_frame n s hh
  exact ⟨_, exec_receive ⟨hh, hp⟩ hn, hstuck, receiveBody_phase_of_unicast n hid hh, hstatus, frame.cfg,
    frame.savedCfg, frame.savedValid, step_of_stuck hne⟩

end Sys2Proof.Machine
end

section
/-! SUPPORT. A whole response as a whole next state: RECEIVE reads it from the stream, and TRANSACT gets it at the first
asking (spec/41_engine.md R119 to R124, R129, spec/40_codec.md R100 to R102). -/

namespace Sys2Proof.Machine

/-! ## The reads of a whole response -/

/-- The state after DECODE has read the parameters `params` and the checksum byte `c` of a response from a quiet channel
that holds `rest` behind them, and written `desc` (R100, R101, R142). -/
def responseRead (s : State) (params : List Byte) (c : Byte) (rest : List Byte) (desc : Desc) : State :=
  { s with
    desc := desc
    ch := { s.ch with rx := rest }
    env := s.env.drop (if params = [] then 1 else 2)
    events := s.events ++ (if params = [] then [] else [.rx params.length params.length params])
      ++ Spec.tapped s params ++ [.rx 1 1 [c]] ++ Spec.tapped s [c] }

theorem payloadEvents_of_quiet {s : State} {params : List Byte} (hpayload : Spec.payload s = params)
    (hcount : params.length = s.expCnt) : Spec.payloadEvents s =
      (if params = [] then [] else [.rx params.length params.length params]) ++ Spec.tapped s params := by
  unfold Spec.payloadEvents
  by_cases h0 : params = []
  · have hzero : s.expCnt = 0 := by rw [← hcount, h0]; rfl
    rw [if_pos hzero, if_pos h0, h0, tapped_nil]
    rfl
  · have hpos : s.expCnt ≠ 0 := by rw [← hcount]; exact mt List.length_eq_zero_iff.mp h0
    rw [if_neg hpos, if_neg h0, hpayload, hcount]
    rfl

theorem afterChecksumRead_of_response {s : State} {params rest : List Byte} {c : Byte} (hq : s.quietChannel = true)
    (hcount : params.length = s.expCnt) (hrx : s.ch.rx = params ++ c :: rest) :
    Spec.payload s = params ∧ Spec.checksumRead s = [c] ∧ afterChecksumRead s =
      responseRead s params c rest { s.desc with data := overwrite s.desc.data params } := by
  have hpayload : Spec.payload s = params := by rw [payload_of_quiet hq, hrx, ← hcount, List.take_left]
  have hread : Spec.checksumRead s = [c] := by rw [checksumRead_of_quiet hq, hrx, ← hcount, List.drop_left]; rfl
  have hleft : Spec.bytesLeft s (Spec.payloadMoves s) 1 (Spec.afterPayload s) = rest := by
    rw [bytesLeft_of_quiet hq, afterPayload_of_quiet hq, hrx, ← hcount, List.drop_left]
    rfl
  have hmoves : Spec.payloadMoves s + 1 = if params = [] then 1 else 2 := by
    rw [Spec.payloadMoves, ← hcount]
    by_cases h0 : params = [] <;> simp [h0]
  refine ⟨hpayload, hread, ?_⟩
  simp only [afterChecksumRead, afterPayloadRead, responseRead, hpayload, hread, hleft, hmoves,
    payloadEvents_of_quiet hpayload hcount, List.append_assoc]
  rfl

/-- DECODE of a good header with the rest of its packet in the stream of a quiet channel, in every mode of
`RX_BYTE_MODE`: `OK` exactly when the checksum byte is right (R102). -/
theorem decodeResponse_of_response {s : State} {params rest : List Byte} {c : Byte} (hh : s.hung = none)
    (hq : s.quietChannel = true) (hgood : Spec.headerGood s.hdr s.expId s.expCnt) (hcount : params.length = s.expCnt)
    (hrx : s.ch.rx = params ++ c :: rest) :
    decodeResponse s = responseRead s params c rest { Spec.captured s.desc s.hdr with
      data := overwrite s.desc.data params, cksum := c
      status := if c = Spec.responseChecksum s.hdr params then Flag.ok else Flag.checksumError } := by
  obtain ⟨hpayload, hread, -⟩ := afterChecksumRead_of_response hq hcount hrx
  obtain ⟨-, -, hafter⟩ := afterChecksumRead_of_response (s := captureHeader s) hq hcount hrx
  rw [decodeResponse_of_checksum hh hgood (by rw [hpayload, hcount]) hread, hafter, hpayload, captureHeader_eq]
  rfl

/-- The header of a response with `n` parameters (R63). -/
def responseHeader (id st : Byte) (n : Nat) : Vector Byte 5 := #v[0xFF, 0xFF, id, BitVec.ofNat 8 (n + 2), st]

theorem responseChecksum_of_response {n : Nat} (hn : n ≤ 253) (id st : Byte) (params : List Byte) :
    Spec.responseChecksum (responseHeader id st n) params =
      complementByte (id.toNat + (n + 2) + st.toNat + byteSum params) := by
  have hlen : (BitVec.ofNat 8 (n + 2)).toNat = n + 2 := by rw [BitVec.toNat_ofNat]; omega
  rw [← hlen]
  rfl

/-- The descriptor after a response from `id` with the status byte `st`, the parameters `params` and the checksum byte
`c` (R96, R100 to R102). -/
def Desc.received (d : Desc) (id st c : Byte) (params : List Byte) : Desc :=
  { d with
    id := id, len := BitVec.ofNat 8 (params.length + 2), instr := st, addr := 255, pcnt := 255, idn := 0
    data := overwrite d.data params, cksum := c
    status := if c = complementByte (id.toNat + (params.length + 2) + st.toNat + byteSum params)
      then Flag.ok else Flag.checksumError }

/-- DECODE of the expected response from a quiet channel, in every mode of `RX_BYTE_MODE` (R95 to R102). -/
theorem decodeResponse_of_expected {s : State} {params rest : List Byte} {st c : Byte} (hh : s.hung = none)
    (hq : s.quietChannel = true) (hn : params.length ≤ 253) (hcount : s.expCnt = params.length)
    (hhdr : s.hdr = responseHeader s.expId st params.length) (hrx : s.ch.rx = params ++ c :: rest) :
    decodeResponse s = responseRead s params c rest (s.desc.received s.expId st c params) := by
  have hgood : Spec.headerGood s.hdr s.expId s.expCnt := by
    rw [hhdr, hcount]
    exact headerGood_of_response hn s.expId st
  rw [decodeResponse_of_response hh hq hgood hcount.symm hrx, hhdr, responseChecksum_of_response hn]
  rfl

/-! ## RECEIVE -/

/-- The state after the header `h` was read with `rest` left in the stream (R122, R142). -/
def headerTaken (h : Vector Byte 5) (rest : List Byte) (s : State) : State :=
  { s with
    hdr := h, ch := { s.ch with rx := rest }, env := s.env.tail
    events := s.events ++ .rx 5 5 h.toList :: Spec.tapped s h.toList }

/-- The header stage with the expected response in front of the stream of a quiet channel (R122, R100 to R102). -/
theorem headerStage_of_expected {s : State} {params rest : List Byte} {st c : Byte} (hh : s.hung = none)
    (hq : s.quietChannel = true) (hn : params.length ≤ 253) (hcount : s.expCnt = params.length)
    (hrx : s.ch.rx = (responseHeader s.expId st params.length).toList ++ (params ++ c :: rest)) :
    headerStage s = { s with
      hdr := responseHeader s.expId st params.length
      desc := s.desc.received s.expId st c params
      ch := { s.ch with rx := rest }
      env := s.env.drop (if params = [] then 2 else 3)
      events := s.events ++ [.rx 5 5 (responseHeader s.expId st params.length).toList]
        ++ Spec.tapped s (responseHeader s.expId st params.length).toList
        ++ (if params = [] then [] else [.rx params.length params.length params]) ++ Spec.tapped s params
        ++ [.rx 1 1 [c]] ++ Spec.tapped s [c] } := by
  have hstage : headerStage s = decodeResponse (headerTaken _ (params ++ c :: rest) s) :=
    headerStage_of_header hh hq hrx
  have hquiet : (headerTaken (responseHeader s.expId st params.length) (params ++ c :: rest) s).quietChannel = true :=
    quietChannel_of_suffix hq (List.tail_suffix s.env)
  have henv : s.env.tail.drop (if params = [] then 1 else 2) = s.env.drop (if params = [] then 2 else 3) := by
    rw [← List.drop_one, List.drop_drop]
    split <;> rfl
  rw [hstage, decodeResponse_of_expected (s := headerTaken _ _ s) hh hquiet hn hcount rfl rfl, responseRead,
    headerTaken, henv]
  simp only [List.append_assoc, List.cons_append, List.nil_append]
  rfl

/-- RECEIVE of the expected response that stands in the stream at the first asking, on a channel that is honest then and
quiet afterwards (R119 to R124). -/
theorem receiveBody_of_expected {s : State} {params rest : List Byte} {st c : Byte} (hh : s.hung = none)
    (hid : s.desc.id ≠ 254) (hn : params.length ≤ 253) (hhonest : (Spec.move s 0).avail = none)
    (hq : (s.env.drop 1).all EnvMove.quiet = true)
    (hqueue : Spec.queueAt s 0 = (responseHeader s.desc.id st params.length).toList ++ (params ++ c :: rest)) :
    receiveBody params.length s = { s with
      phase := .receiving, pollcnt := 0, expId := s.desc.id, expCnt := params.length
      hdr := responseHeader s.desc.id st params.length
      desc := s.desc.received s.desc.id st c params
      ch := { s.ch with rx := rest }
      env := s.env.drop (if params = [] then 3 else 4)
      events := s.events ++ [.avail (Spec.queueAt s 0).length]
        ++ [.rx 5 5 (responseHeader s.desc.id st params.length).toList]
        ++ Spec.tapped s (responseHeader s.desc.id st params.length).toList
        ++ (if params = [] then [] else [.rx params.length params.length params]) ++ Spec.tapped s params
        ++ [.rx 1 1 [c]] ++ Spec.tapped s [c] } := by
  have hanswer : Spec.answerAt s 0 = (Spec.queueAt s 0).length := by rw [Spec.answerAt, hhonest]; rfl
  have hfound : 5 ≤ Spec.answerAt s 0 := by
    rw [hanswer, hqueue, List.length_append, Vector.length_toList]
    exact Nat.le_add_right _ _
  have hpoll : pollEvents (latchReceive params.length s) 0 = [.avail (Spec.queueAt s 0).length] := by
    rw [← hanswer]
    rfl
  have henv : (s.env.drop 1).drop (if params = [] then 2 else 3) = s.env.drop (if params = [] then 3 else 4) := by
    rw [List.drop_drop]
    split <;> rfl
  have hrest : (afterAskings (latchReceive params.length s) 0).env = s.env.drop 1 := rfl
  rw [receiveBody_of_found hid (Nat.zero_le _) (by simp) hfound,
    headerStage_of_expected (s := afterAskings (latchReceive params.length s) 0) hh hq hn rfl hqueue,
    afterAskings_events, hpoll, hrest, henv]
  rfl

/-- Settles O27: `receiveBody_of_expected`; on a quiet channel the first asking sees what stands in the stream. -/
theorem receiveOfAWholeResponse : Obligations.ReceiveOfAWholeResponse := by
  intro s st ck params rest hready hid hn hq hrx
  obtain ⟨hh, hp⟩ := hready
  obtain ⟨-, hhonest, -⟩ := (quiet_iff _).mp (move_quiet hq 0)
  have hstream : s.ch.rx = (responseHeader s.desc.id st params.length).toList ++ (params ++ ck :: rest) := by
    rw [hrx, List.append_assoc, List.append_assoc]; rfl
  have hlater : (s.env.drop 1).all EnvMove.quiet = true :=
    quietChannel_of_suffix (t := { s with env := s.env.drop 1 }) hq (List.drop_suffix 1 s.env)
  have hqueue := queueAt_of_quiet hq 0
  rw [exec_receive ⟨hh, hp⟩ hn, receiveBody_of_expected hh hid hn hhonest hlater (hqueue.trans hstream), hqueue]
  rfl

end Sys2Proof.Machine
end

section
/-! SUPPORT. TRANSACT on a quiet and sound channel: BEGIN and SEND run through, and END restores the configuration after
what RECEIVE did (spec/41_engine.md R120, R129, spec/20_memory.md R51). -/

namespace Sys2Proof.Machine

/-! ## BEGIN and SEND run through -/

/-- A move that lets a call of BEGIN, SEND or END succeed and brings no byte. -/
def calmMove (m : EnvMove) : Prop := m.arrive = [] ∧ m.configureOk = true ∧ m.flushReturns = true

/-- The state in which the RECEIVE of a TRANSACT starts, when BEGIN and SEND ran through: stale bytes gone, the
configuration saved and replaced, the packet sent (R112, R116). -/
def requestSent (s : State) : State :=
  { s with
    phase := .sending, savedCfg := s.ch.cfg, savedValid := true, dir := !s.params.dirTxLevel
    desc := { s.desc with cksum := s.desc.checksum }
    ch := { cfg := Config.protoCfg s.params, rx := [], tx := [] }
    env := s.env.drop 5
    events := s.events ++ [.drain, .cfgGet s.ch.cfg, .cfgSet (Config.protoCfg s.params) true,
      .dir s.params.dirTxLevel, .tx s.desc.packet, .flush, .dir (!s.params.dirTxLevel)] }

theorem beginBody_of_calm {s : State} (hbus : s.busEn = true) (hcalm : ∀ k, k < 5 → calmMove (Spec.move s k)) :
    beginBody s = (Flag.ok, { s with
      phase := .reserved, savedCfg := s.ch.cfg, savedValid := true
      ch := { cfg := Config.protoCfg s.params, rx := [], tx := s.ch.tx }
      env := s.env.drop 3
      events := s.events ++ [.drain, .cfgGet s.ch.cfg, .cfgSet (Config.protoCfg s.params) true] }) := by
  obtain ⟨h1, -⟩ : calmMove (moveAt s 1) := hcalm 1 (by omega)
  obtain ⟨h2, hcfg, -⟩ : calmMove (moveAt s 2) := hcalm 2 (by omega)
  have henv : s.env.tail.tail.tail = s.env.drop 3 := by simp only [← List.drop_one, List.drop_drop]
  rw [beginBody_applied s hbus hcfg, h1, h2, henv]
  rfl

theorem sendBody_beginBody_of_calm {s : State} (hh : s.hung = none) (hbus : s.busEn = true)
    (hcalm : ∀ k, k < 5 → calmMove (Spec.move s k)) : sendBody (beginBody s).2 = requestSent s := by
  have hmove (k : Nat) : moveAt (beginBody s).2 k = Spec.move s (3 + k) := by
    rw [beginBody_of_calm hbus hcalm]
    simp [moveAt, Spec.move]
  obtain ⟨h3, -⟩ := hcalm 3 (by omega)
  obtain ⟨h4, -, hflush⟩ := hcalm 4 (by omega)
  rw [sendBody_returns _ (by simp [hh]) (by rw [hmove]; exact hflush), hmove, hmove, h3, h4,
    beginBody_of_calm hbus hcalm, requestSent]
  simp only [← List.drop_one, List.drop_drop, List.append_assoc, List.cons_append, List.nil_append]

/-- TRANSACT whose BEGIN and SEND ran through, whose RECEIVE returned, and whose END restored (R129). -/
theorem exec_transact_of_calm {n : Nat} {s : State} (hready : s.ready [.idle]) (hw : s.desc.wf = true) (hn : n ≤ 253)
    (hbus : s.busEn = true) (hcalm : ∀ k, k < 5 → calmMove (Spec.move s k))
    (hr : (receiveBody n (requestSent s)).hung = none) :
    exec (.transact n) s = .next (setResult (.status (receiveBody n (requestSent s)).desc.status)
      (endBody (receiveBody n (requestSent s)))) := by
  obtain ⟨hh, hp⟩ := hready
  have hbegin : (beginBody s).1 = Flag.ok := by rw [beginBody_of_calm hbus hcalm]
  have hsend := sendBody_beginBody_of_calm hh hbus hcalm
  rw [exec_transact ⟨hh, hp⟩ hw hn,
    transactBody_sequence n s hbegin (by rw [hsend]; exact hh) (by rw [hsend]; exact hr), hsend,
    returnStatus_of_returns (by rw [endBody_hung]; exact hr), endBody_desc]

/-! ## A broadcast -/

/-- What holds of every move of a script, and of the silent move behind its end, holds of the `k`-th (log 4). -/
theorem getD_of_all {p : EnvMove → Bool} {env : List EnvMove} (h : env.all p = true) (hsilent : p {} = true) (k : Nat) :
    p (env.getD k {}) = true := by
  rw [List.getD_eq_getElem?_getD]
  cases hk : env[k]? with
  | none => exact hsilent
  | some m => exact List.all_eq_true.mp h m (List.mem_of_getElem? hk)

theorem move_sound {s : State} (hs : s.soundChannel = true) (k : Nat) :
    (Spec.move s k).configureOk = true ∧ (Spec.move s k).flushReturns = true :=
  Bool.and_eq_true_iff.mp (getD_of_all hs rfl k)

theorem calmMove_of_quiet_sound {s : State} (hq : s.quietChannel = true) (hs : s.soundChannel = true) (k : Nat) :
    calmMove (Spec.move s k) :=
  ⟨((quiet_iff _).mp (move_quiet hq k)).left, move_sound hs k⟩

/-- Settles O37: between BEGIN, SEND (`requestSent`) and END only `STATUS` is written (`receiveBody_of_broadcast`). -/
theorem transactOfABroadcastCompletes : Obligations.TransactOfABroadcastCompletes := by
  intro s n hready hw hn hbus hid hq hs
  have hcalm (k : Nat) : calmMove (Spec.move s k) := calmMove_of_quiet_sound hq hs k
  have hreceive : receiveBody n (requestSent s) = setStatus Flag.ok (requestSent s) := receiveBody_of_broadcast n hid
  have hmove : moveAt (setStatus Flag.ok (requestSent s)) 0 = Spec.move s 5 := by
    simp [moveAt, Spec.move, requestSent]
  obtain ⟨harrive, hcfg, -⟩ := hcalm 5
  rw [exec_transact_of_calm hready hw hn hbus (fun k _ => hcalm k) (by rw [hreceive]; exact hready.1), hreceive,
    endBody_restored _ rfl (by rw [hmove]; exact hcfg), hmove, harrive]
  have hp : s.phase = .idle := List.mem_singleton.mp hready.2
  rw [← packet_of_wf hw, ← checksum_eq _ (groups_fit_of_wf hw)]
  simp [requestSent, setStatus, setResult, hp]

/-! ## A prompt response -/

/-- The response that arrives at the first asking, all of it and nothing else. -/
def promptMove (id st ck : Byte) (params : List Byte) : EnvMove :=
  { arrive := (responseHeader id st params.length).toList ++ (params ++ [ck]) }

/-- RECEIVE of a response that arrives at the first asking, on an otherwise quiet channel (R119 to R124). -/
theorem receiveBody_of_promptMove {s : State} {env : List EnvMove} {st ck : Byte} {params : List Byte}
    (hh : s.hung = none) (hid : s.desc.id ≠ 254) (hn : params.length ≤ 253) (hrx : s.ch.rx = [])
    (henv : s.env = promptMove s.desc.id st ck params :: env) (hq : env.all EnvMove.quiet = true) :
    receiveBody params.length s = { s with
      phase := .receiving, pollcnt := 0, expId := s.desc.id, expCnt := params.length
      hdr := responseHeader s.desc.id st params.length
      desc := s.desc.received s.desc.id st ck params
      ch := { s.ch with rx := [] }
      env := env.drop (if params = [] then 2 else 3)
      events := s.events ++ [.avail (params.length + 6)]
        ++ [.rx 5 5 (responseHeader s.desc.id st params.length).toList]
        ++ Spec.tapped s (responseHeader s.desc.id st params.length).toList
        ++ (if params = [] then [] else [.rx params.length params.length params]) ++ Spec.tapped s params
        ++ [.rx 1 1 [ck]] ++ Spec.tapped s [ck] } := by
  have hmove : Spec.move s 0 = promptMove s.desc.id st ck params := by rw [Spec.move, henv]; rfl
  have hqueue : Spec.queueAt s 0 = (responseHeader s.desc.id st params.length).toList ++ (params ++ [ck]) := by
    rw [queueAt_eq, hmove, hrx]
    rfl
  have hlength : (Spec.queueAt s 0).length = params.length + 6 := by
    rw [hqueue, List.length_append, Vector.length_toList, List.length_append]
    exact Nat.add_comm ..
  have hleft : s.env.drop (if params = [] then 3 else 4) = env.drop (if params = [] then 2 else 3) := by
    rw [henv]
    split <;> rfl
  rw [receiveBody_of_expected hh hid hn (by rw [hmove]; rfl) (by rw [henv]; exact hq) hqueue, hlength, hleft]

theorem calmMove_of_silent_start {s : State} {rest : List EnvMove}
    (henv : s.env = List.replicate 5 ({} : EnvMove) ++ rest) {k : Nat} (hk : k < 5) : calmMove (Spec.move s k) := by
  have hmove : Spec.move s k = {} := by
    rw [Spec.move, henv]
    match k, hk with
    | 0, _ | 1, _ | 2, _ | 3, _ | 4, _ => rfl
  rw [hmove]
  exact ⟨rfl, rfl, rfl⟩

/-- Settles O38: after BEGIN and SEND (`requestSent`) the whole response arrives at the first asking
(`receiveBody_of_promptMove`), and END restores the configuration. -/
theorem transactWithAPromptResponseCompletes : Obligations.TransactWithAPromptResponseCompletes := by
  intro s st ck params env hready hw hbus hid hn hck henv hq hcfg
  have hsent : (requestSent s).env = promptMove s.desc.id st ck params :: env := by
    change s.env.drop 5 = _
    rw [henv, List.append_assoc]
    rfl
  have hreceive := receiveBody_of_promptMove (s := requestSent s) hready.1 hid hn rfl hsent hq
  have hmove : moveAt (receiveBody params.length (requestSent s)) 0 = env.getD (if params = [] then 2 else 3) {} := by
    rw [hreceive]
    simp [moveAt]
  obtain ⟨harrive, -⟩ := (quiet_iff _).mp (getD_of_all hq rfl (if params = [] then 2 else 3))
  have hrestore := getD_of_all hcfg rfl (if params = [] then 2 else 3)
  have hend : (env.drop (if params = [] then 2 else 3)).tail = env.drop (if params = [] then 3 else 4) := by
    rw [List.tail_drop]
    split <;> rfl
  have hp : s.phase = .idle := List.mem_singleton.mp hready.2
  rw [exec_transact_of_calm hready hw hn hbus (fun k hk => calmMove_of_silent_start henv hk)
      (by rw [hreceive]; exact hready.1),
    endBody_restored _ (by rw [hreceive]; rfl) (by rw [hmove]; exact hrestore), hmove, harrive, hreceive, ← hp]
  simp only [requestSent, setResult, Desc.received, if_pos hck, hend, packet_of_wf hw, List.append_assoc,
    List.cons_append, List.nil_append]
  rfl

end Sys2Proof.Machine
end

section
/-! SUPPORT. What the engine does depends neither on the host's last result nor on which of `GENERIC` and `RAW_BOUNDED`
the byte mode is: every operation commutes with changing them (spec/41_engine.md R126, R129; log 14). -/

namespace Sys2Proof.Machine

/-! ## A change no operation sees -/

/-- A change of the parameters that no rule of the step can tell: the same level of the line, the same `PROTO_CFG`, and
the same answer to whether reads are unbounded. -/
structure Unseen (f : Params → Params) : Prop where
  dirTxLevel (p : Params) : (f p).dirTxLevel = p.dirTxLevel
  protoCfg (p : Params) : Config.protoCfg (f p) = Config.protoCfg p
  unbounded (p : Params) : (f p).rxByteMode = .rawUnbounded ↔ p.rxByteMode = .rawUnbounded

/-- The state with its parameters and the host's last result changed. -/
def State.recast (f : Params → Params) (g : CmdResult → CmdResult) (s : State) : State :=
  { s with params := f s.params, result := g s.result }

section Recast

variable {f : Params → Params} {g : CmdResult → CmdResult}

@[simp] theorem recast_stuck (s : State) : (s.recast f g).stuck = s.stuck := rfl

/-! ## BEGIN, SEND, END -/

theorem beginBody_recast (hf : Unseen f) (s : State) :
    beginBody (s.recast f g) = ((beginBody s).1, (beginBody s).2.recast f g) := by
  have hproto : Config.protoCfg (s.recast f g).params = Config.protoCfg s.params := hf.protoCfg s.params
  cases hb : s.busEn with
  | false => rw [beginBody_disabled s hb, beginBody_disabled (s.recast f g) hb]
  | true =>
    cases hc : (moveAt s 2).configureOk with
    | true => rw [beginBody_applied s hb hc, beginBody_applied (s.recast f g) hb hc, hproto]; rfl
    | false => rw [beginBody_failed s hb hc, beginBody_failed (s.recast f g) hb hc, hproto]; rfl

theorem sendBody_recast (hf : Unseen f) {s : State} (hh : s.hung = none) :
    sendBody (s.recast f g) = (sendBody s).recast f g := by
  have hlevel : (s.recast f g).params.dirTxLevel = s.params.dirTxLevel := hf.dirTxLevel s.params
  cases hflush : (moveAt s 1).flushReturns with
  | true => rw [sendBody_returns s hh hflush, sendBody_returns (s.recast f g) hh hflush, hlevel]; rfl
  | false => rw [sendBody_never s hflush, sendBody_never (s.recast f g) hflush, hlevel]; rfl

theorem endBody_recast (s : State) : endBody (s.recast f g) = (endBody s).recast f g := by
  cases hv : s.savedValid with
  | false => rw [endBody_nothing s hv, endBody_nothing (s.recast f g) hv]; rfl
  | true =>
    cases hc : (moveAt s 0).configureOk with
    | true => rw [endBody_restored s hv hc, endBody_restored (s.recast f g) hv hc]; rfl
    | false => rw [endBody_unrestored s hv hc, endBody_unrestored (s.recast f g) hv hc]; rfl

/-! ## RECEIVE -/

theorem poll_recast (fuel : Nat) (s : State) :
    poll fuel (s.recast f g) = ((poll fuel s).1, (poll fuel s).2.recast f g) := by
  induction fuel generalizing s with
  | zero => rfl
  | succ fuel ih =>
    by_cases hfound : Config.hdrLen ≤ (chAvail s).1
    · rw [poll_of_available _ hfound, poll_of_available (s := s.recast f g) _ hfound]; rfl
    · have hbelow := Nat.not_le.mp hfound
      rw [poll_succ_of_below hbelow, poll_succ_of_below (s := s.recast f g) hbelow, ← ih]
      rfl

/-- A read is stuck in the same cases. -/
theorem readAndTap_recast (hf : Unseen f) (n : Nat) (s : State) :
    readAndTap n (s.recast f g) = ((readAndTap n s).1, (readAndTap n s).2.recast f g) := by
  have hmode : (s.recast f g).params.rxByteMode = .rawUnbounded ↔ s.params.rxByteMode = .rawUnbounded :=
    hf.unbounded s.params
  have hfetch : fetched n (s.recast f g) = fetched n s := rfl
  rcases readAndTap_cases n s with ⟨hreturns, e⟩ | ⟨hshort, hm, e⟩ <;>
    rcases readAndTap_cases n (s.recast f g) with ⟨hreturns', e'⟩ | ⟨hshort', hm', e'⟩
  · rw [e, e']; rfl
  · rw [hmode] at hm'
    rw [hfetch] at hshort'
    exact absurd hm' (hreturns.resolve_left (Nat.ne_of_lt hshort'))
  · rw [hfetch, Ne, hmode] at hreturns'
    exact absurd hm (hreturns'.resolve_left (Nat.ne_of_lt hshort))
  · rw [e, e']; rfl

theorem checkChecksum_recast (s : State) : checkChecksum (s.recast f g) = (checkChecksum s).recast f g := rfl

theorem checksumStage_recast (hf : Unseen f) (s : State) :
    checksumStage (s.recast f g) = (checksumStage s).recast f g := by
  unfold checksumStage
  rw [readAndTap_recast hf]
  generalize readAndTap 1 s = r
  obtain ⟨bs, t⟩ := r
  cases hstuck : t.stuck with
  | true => simp only [recast_stuck, hstuck, if_true]
  | false =>
    simp only [recast_stuck, hstuck, Bool.false_eq_true, if_false]
    cases bs with
    | nil => rfl
    | cons c bs => exact checkChecksum_recast (setCksum c t)

theorem payloadStage_recast (hf : Unseen f) (s : State) :
    payloadStage (s.recast f g) = (payloadStage s).recast f g := by
  have hread : readAndTap (s.recast f g).expCnt (s.recast f g) = _ := readAndTap_recast hf s.expCnt s
  have hcount : (s.recast f g).expCnt = s.expCnt := rfl
  unfold payloadStage
  rw [hread, hcount]
  generalize readAndTap s.expCnt s = r
  obtain ⟨bs, t⟩ := r
  by_cases h0 : s.expCnt = 0
  · rw [if_pos h0, if_pos h0, checksumStage_recast hf]
  rw [if_neg h0, if_neg h0]
  cases hstuck : t.stuck with
  | true => simp only [recast_stuck, hstuck, if_true]
  | false =>
    simp only [recast_stuck, hstuck, Bool.false_eq_true, if_false]
    split
    · rfl
    · exact checksumStage_recast hf (setData bs t)

theorem decodeResponse_recast (hf : Unseen f) (s : State) :
    decodeResponse (s.recast f g) = (decodeResponse s).recast f g := by
  rcases decodeResponse_cases s with ⟨hbad, e⟩ | ⟨hgood, e⟩ <;>
    rcases decodeResponse_cases (s.recast f g) with ⟨hbad', e'⟩ | ⟨hgood', e'⟩
  · rw [e, e']; rfl
  · exact absurd hgood' hbad
  · exact absurd hgood hbad'
  · rw [e, e', ← payloadStage_recast hf]; rfl

theorem headerStage_recast (hf : Unseen f) (s : State) :
    headerStage (s.recast f g) = (headerStage s).recast f g := by
  unfold headerStage
  rw [readAndTap_recast hf]
  generalize readAndTap Config.hdrLen s = r
  obtain ⟨bs, t⟩ := r
  cases hstuck : t.stuck with
  | true => simp only [recast_stuck, hstuck, if_true]
  | false =>
    simp only [recast_stuck, hstuck, Bool.false_eq_true, if_false]
    split
    · rfl
    · exact decodeResponse_recast hf { t with hdr := overwrite t.hdr bs }

theorem receiveBody_recast (hf : Unseen f) (n : Nat) (s : State) :
    receiveBody n (s.recast f g) = (receiveBody n s).recast f g := by
  have hpoll : poll Config.pollMax (latchReceive n (s.recast f g)) = _ := poll_recast _ (latchReceive n s)
  have hid : (s.recast f g).desc.id = s.desc.id := rfl
  unfold receiveBody
  rw [hpoll, hid]
  by_cases hbroadcast : s.desc.id = Config.idBroadcast
  · rw [if_pos hbroadcast, if_pos hbroadcast]; rfl
  rw [if_neg hbroadcast, if_neg hbroadcast]
  cases hfound : (poll Config.pollMax (latchReceive n s)).1 with
  | true => simp only [hfound, if_true, headerStage_recast hf]
  | false => simp only [hfound, Bool.false_eq_true, if_false]; rfl

end Recast

/-! ## TRANSACT as four commands -/

theorem unseen_id : Unseen id := ⟨fun _ => rfl, fun _ => rfl, fun _ => Iff.rfl⟩

theorem sendBody_setResult (r : CmdResult) {s : State} (hh : s.hung = none) :
    sendBody (setResult r s) = setResult r (sendBody s) :=
  sendBody_recast (g := fun _ => r) unseen_id hh

theorem receiveBody_setResult (r : CmdResult) (n : Nat) (s : State) :
    receiveBody n (setResult r s) = setResult r (receiveBody n s) :=
  receiveBody_recast (g := fun _ => r) unseen_id n s

theorem endBody_setResult (r : CmdResult) (s : State) : endBody (setResult r s) = setResult r (endBody s) :=
  endBody_recast (f := id) (g := fun _ => r) s

theorem exec_begin_next {s t : State} (h : exec .beginTxn s = .next t) :
    s.ready [.idle] ∧ t = setResult (.status (beginBody s).1) (beginBody s).2 := by
  obtain ⟨hh, hp, e⟩ := acceptIn_next h
  cases e
  exact ⟨⟨hh, hp⟩, rfl⟩

theorem exec_send_next {s t : State} (h : exec .send s = .next t) : s.hung = none ∧ t = sendBody s := by
  obtain ⟨hh, -, hrun⟩ := acceptIn_next h
  obtain ⟨-, e⟩ := require_next hrun
  cases e
  exact ⟨hh, rfl⟩

theorem exec_receive_next {n : Nat} {s t : State} (h : exec (.receive n) s = .next t) :
    s.hung = none ∧ t = receiveBody n s := by
  obtain ⟨hh, -, hrun⟩ := acceptIn_next h
  obtain ⟨-, e⟩ := require_next hrun
  cases e
  exact ⟨hh, rfl⟩

theorem exec_end_next {s t : State} (h : exec .endTxn s = .next t) : s.hung = none ∧ t = endBody s := by
  obtain ⟨hh, -, e⟩ := acceptIn_next h
  cases e
  exact ⟨hh, rfl⟩

/-- Settles O35: run singly, the commands after BEGIN carry its result along and do the same (`recast`); that each of
them was accepted says that the one before it returned (`transactBody_sequence`). -/
theorem transactIsTheFourCommandsInSequence : Obligations.TransactIsTheFourCommandsInSequence := by
  intro s s1 s2 s3 s4 n hw hn hbegin hresult hsend hreceive hend
  obtain ⟨hready, rfl⟩ := exec_begin_next hbegin
  obtain ⟨hbegun, rfl⟩ := exec_send_next hsend
  obtain ⟨hsent, rfl⟩ := exec_receive_next hreceive
  obtain ⟨hreceived, rfl⟩ := exec_end_next hend
  have hok : (beginBody s).1 = Flag.ok := CmdResult.status.inj hresult
  rw [sendBody_setResult _ (by simpa using hbegun)] at hsent hreceived ⊢
  rw [receiveBody_setResult] at hreceived ⊢
  rw [endBody_setResult, exec_transact hready hw hn, transactBody_sequence n s hok hsent hreceived,
    returnStatus_of_returns (by simpa using hreceived)]
  rfl

/-! ## The byte mode -/

/-- `RAW_BOUNDED` in place of `GENERIC`; the unbounded mode stays (R126). -/
def boundedMode (p : Params) : Params :=
  if p.rxByteMode = .rawUnbounded then p else { p with rxByteMode := .rawBounded }

theorem unseen_boundedMode : Unseen boundedMode where
  dirTxLevel p := by unfold boundedMode; split <;> rfl
  protoCfg p := by unfold boundedMode; split <;> rfl
  unbounded p := by
    unfold boundedMode
    split
    next => exact Iff.rfl
    next hmode => exact iff_of_false nofun hmode

theorem recast_boundedMode {s : State} (hm : s.params.rxByteMode ≠ .rawUnbounded) :
    s.recast boundedMode id = { s with params := { s.params with rxByteMode := .rawBounded } } := by
  rw [State.recast, boundedMode, if_neg hm]
  rfl

theorem acceptIn_mapNext (k : State → State) {phases : List Phase} {s t : State}
    {run run' : Host.Outcome State Fault Refusal} (hhung : t.hung = s.hung) (hphase : t.phase = s.phase)
    (hrun : s.hung = none → run' = Spec.mapNext k run) :
    acceptIn phases t run' = Spec.mapNext k (acceptIn phases s run) := by
  by_cases hh : s.hung = none
  · by_cases hp : s.phase ∈ phases
    · rw [acceptIn_of run hh hp, acceptIn_of run' (hhung.trans hh) (hphase ▸ hp), hrun hh]
    · rw [acceptIn_out_of_phase run hh hp, acceptIn_out_of_phase run' (hhung.trans hh) (hphase ▸ hp)]
      rfl
  · rw [acceptIn_of_stuck _ run hh, acceptIn_of_stuck _ run' (hhung ▸ hh)]
    rfl

theorem require_mapNext (k : State → State) (c : Bool) (why : Refusal) {run run' : Host.Outcome State Fault Refusal}
    (hrun : run' = Spec.mapNext k run) : require c why run' = Spec.mapNext k (require c why run) := by
  cases c with
  | true => exact hrun
  | false => rfl

theorem transactBody_recast {f : Params → Params} {g : CmdResult → CmdResult} (hf : Unseen f) (n : Nat) {s : State}
    (hh : s.hung = none) : transactBody n (s.recast f g) = (transactBody n s).recast f g := by
  have hsend := sendBody_recast (g := g) hf (s := (beginBody s).2) (by simp [hh])
  unfold transactBody
  rw [beginBody_recast hf]
  simp only [hsend, receiveBody_recast hf, endBody_recast, recast_stuck]
  split
  · rfl
  · split
    · rfl
    · split <;> rfl

theorem returnStatus_recast (f : Params → Params) (s : State) :
    returnStatus (s.recast f id) = (returnStatus s).recast f id := by
  unfold returnStatus
  rw [recast_stuck]
  split <;> rfl

/-- Every instruction does the same under a change of the parameters that no operation sees. -/
theorem exec_recast {f : Params → Params} (hf : Unseen f) (i : Instr) (s : State) :
    exec i (s.recast f id) = Spec.mapNext (State.recast f id) (exec i s) := by
  cases i with
  | beginTxn => exact acceptIn_mapNext _ rfl rfl fun _ => by rw [beginBody_recast hf]; rfl
  | send => exact acceptIn_mapNext _ rfl rfl fun hh => require_mapNext _ _ _ (by rw [sendBody_recast hf hh]; rfl)
  | receive n => exact acceptIn_mapNext _ rfl rfl fun _ => require_mapNext _ _ _ (by rw [receiveBody_recast hf]; rfl)
  | endTxn => exact acceptIn_mapNext _ rfl rfl fun _ => by rw [endBody_recast]; rfl
  | transact n =>
    exact acceptIn_mapNext _ rfl rfl fun hh => require_mapNext _ _ _ (require_mapNext _ _ _
      (by rw [transactBody_recast hf n hh, returnStatus_recast]; rfl))
  | setTap fn ctx => exact acceptIn_mapNext _ rfl rfl fun _ => by split <;> rfl
  | checksum | encode => exact acceptIn_mapNext _ rfl rfl fun _ => require_mapNext _ _ _ rfl
  | decode => rfl
  | reserved0 | reservedA | reservedB | reservedC | reservedD | reservedE | reservedF => rfl
  | reqPlain | reqAddr | reqPcnt | reqAddrPcnt | reqSync | resp => rfl

/-- Settles O59: `exec_recast` with `boundedMode`, which is `RAW_BOUNDED` before the instruction and after it, because
no instruction changes the parameters. -/
theorem rawBoundedBehavesAsGeneric : Obligations.RawBoundedBehavesAsGeneric := by
  intro i s hm
  have hbounded : s.params.rxByteMode ≠ .rawUnbounded := by rw [hm]; exact nofun
  rw [← recast_boundedMode hbounded, exec_recast unseen_boundedMode]
  cases he : exec i s with
  | next t =>
    have hparams : t.params = s.params := (exec_next he).params_eq
    exact congrArg _ (recast_boundedMode (by rw [hparams]; exact hbounded))
  | fault e => rfl
  | refused r => rfl

end Sys2Proof.Machine
end

section
/-! SUPPORT. TRANSACT in every channel environment: at most one write and three reads, a known status in `IDLE` when it
returns, and the channel's configuration restored (spec/41_engine.md R128 to R131, spec/20_memory.md R51). -/

namespace Sys2Proof.Machine

/-! ## Writes and reads -/

/-- Between `s` and `t` at most so many block writes and block reads were made (R43, R44). -/
def TransfersAtMost (writes reads : Nat) (s t : State) : Prop :=
  ∃ new, t.events = s.events ++ new ∧ new.countP Event.isTx ≤ writes ∧ new.countP Event.isRx ≤ reads

theorem TransfersAtMost.trans {w r w' r' : Nat} {s t u : State} (h : TransfersAtMost w r s t)
    (k : TransfersAtMost w' r' t u) : TransfersAtMost (w + w') (r + r') s u := by
  obtain ⟨first, hfirst, hw, hr⟩ := h
  obtain ⟨second, hsecond, hw', hr'⟩ := k
  refine ⟨first ++ second, by rw [hsecond, hfirst, List.append_assoc], ?_, ?_⟩ <;> rw [List.countP_append]
  · exact Nat.add_le_add hw hw'
  · exact Nat.add_le_add hr hr'

theorem TransfersAtMost.mono {w r w' r' : Nat} {s t : State} (h : TransfersAtMost w r s t) (hw : w ≤ w')
    (hr : r ≤ r') : TransfersAtMost w' r' s t := by
  obtain ⟨new, hnew, hwrites, hreads⟩ := h
  exact ⟨new, hnew, hwrites.trans hw, hreads.trans hr⟩

/-- BEGIN fails on a disabled bus or when `PROTO_CFG` is not applied; otherwise it is applied (R112 to R114). -/
theorem beginBody_cases (s : State) :
    (s.busEn = false ∧ beginBody s = (Flag.fail, s)) ∨
    (s.busEn = true ∧ (moveAt s 2).configureOk = false ∧ (beginBody s).1 = Flag.comInternal) ∨
    (s.busEn = true ∧ (moveAt s 2).configureOk = true ∧ (beginBody s).1 = Flag.ok) := by
  cases hb : s.busEn with
  | false => exact .inl ⟨rfl, beginBody_disabled s hb⟩
  | true =>
    cases hc : (moveAt s 2).configureOk with
    | false => exact .inr (.inl ⟨rfl, rfl, by rw [beginBody_failed s hb hc]⟩)
    | true => exact .inr (.inr ⟨rfl, rfl, by rw [beginBody_applied s hb hc]⟩)

theorem beginBody_transfers (s : State) : TransfersAtMost 0 0 s (beginBody s).2 := by
  rcases beginBody_cases s with ⟨-, e⟩ | ⟨hb, hc, -⟩ | ⟨hb, hc, -⟩
  · rw [e]; exact ⟨[], (List.append_nil _).symm, Nat.le_refl _, Nat.le_refl _⟩
  · rw [beginBody_failed s hb hc]; exact ⟨_, rfl, Nat.le_refl _, Nat.le_refl _⟩
  · rw [beginBody_applied s hb hc]; exact ⟨_, rfl, Nat.le_refl _, Nat.le_refl _⟩

/-- SEND writes once, whether its flush returns or not (R116, R208). -/
theorem sendBody_transfers {s : State} (hh : s.hung = none) : TransfersAtMost 1 0 s (sendBody s) := by
  cases hflush : (moveAt s 1).flushReturns with
  | true => rw [sendBody_returns s hh hflush]; exact ⟨_, rfl, Nat.le_refl _, Nat.le_refl _⟩
  | false => rw [sendBody_never s hflush]; exact ⟨_, rfl, Nat.le_refl _, Nat.le_refl _⟩

theorem isTx_of_isReceiveEvent {e : Event} (h : Spec.isReceiveEvent e = true) : ¬ e.isTx = true := by
  cases e with
  | tx bs => cases h
  | cfgGet | cfgSet | drain | dir | flush | avail | sleep | rx | tap => exact nofun

theorem receiveBody_transfers (n : Nat) {s : State} (hh : s.hung = none) :
    TransfersAtMost 0 3 s (receiveBody n s) := by
  obtain ⟨new, hnew, hkind, -, -, hreads⟩ := receiveBody_bounds n s hh
  exact ⟨new, hnew, Nat.le_of_eq (List.countP_eq_zero.mpr fun e he => isTx_of_isReceiveEvent (hkind e he)), hreads⟩

theorem endBody_transfers (s : State) : TransfersAtMost 0 0 s (endBody s) := by
  refine ⟨_, endBody_events s, ?_⟩
  split <;> exact ⟨Nat.le_refl _, Nat.le_refl _⟩

theorem transactBody_transfers (n : Nat) {s : State} (hh : s.hung = none) :
    TransfersAtMost 1 3 s (transactBody n s) := by
  have hbegun := beginBody_transfers s
  have hsent : TransfersAtMost 1 0 s (sendBody (beginBody s).2) := hbegun.trans (sendBody_transfers (by simp [hh]))
  have hreceived (hs : (sendBody (beginBody s).2).hung = none) :
      TransfersAtMost 1 3 s (receiveBody n (sendBody (beginBody s).2)) := hsent.trans (receiveBody_transfers n hs)
  rcases transactBody_cases n s with ⟨-, e⟩ | ⟨-, -, e⟩ | ⟨-, hs, -, e⟩ | ⟨-, hs, -, e⟩ <;> rw [e]
  · exact hbegun.mono (Nat.zero_le _) (Nat.zero_le _)
  · exact hsent.mono (Nat.le_refl _) (Nat.zero_le _)
  · exact hreceived hs
  · exact (hreceived hs).trans (endBody_transfers _)

/-! ## The state in which TRANSACT returns -/

/-- A SEND that returns releases the line (R116). -/
theorem sendBody_dir_of_returns {s : State} (hh : s.hung = none) (hr : (sendBody s).hung = none) :
    (sendBody s).dir = !s.params.dirTxLevel := by
  cases hflush : (moveAt s 1).flushReturns with
  | true => rw [sendBody_returns s hh hflush]
  | false => rw [sendBody_never s hflush] at hr; cases hr

/-- A BEGIN that fails leaves the engine in `IDLE` with nothing saved, and the line alone (R113, R114). -/
theorem beginBody_of_fails {s : State} (hp : s.phase = .idle) (hv : s.savedValid = false)
    (hfail : (beginBody s).1 ≠ Flag.ok) :
    ((beginBody s).1 = Flag.fail ∨ (beginBody s).1 = Flag.comInternal) ∧ (beginBody s).2.phase = .idle ∧
      (beginBody s).2.savedValid = false ∧ (beginBody s).2.dir = s.dir := by
  rcases beginBody_cases s with ⟨-, e⟩ | ⟨hb, hc, -⟩ | ⟨-, -, hok⟩
  · rw [e]; exact ⟨.inl rfl, hp, hv, rfl⟩
  · rw [beginBody_failed s hb hc]; exact ⟨.inr rfl, hp, rfl, rfl⟩
  · exact absurd hok hfail

/-- Settles O39: `transactBody_transfers` for the events; a TRANSACT that returns ends after a failed BEGIN
(`beginBody_of_fails`) or with END, whose status is that of RECEIVE (`receiveBody_returnsOrSticks`). -/
theorem transactReturnsToIdleWithAKnownStatus : Obligations.TransactReturnsToIdleWithAKnownStatus := by
  intro s n hready hw hn hv
  obtain ⟨hh, hp⟩ := hready
  obtain ⟨new, hnew, hwrites, hreads⟩ := transactBody_transfers n hh
  refine ⟨_, new, exec_transact ⟨hh, hp⟩ hw hn, (returnStatus_events _).trans hnew, hwrites, hreads, fun hret => ?_⟩
  rw [returnStatus_hung] at hret
  rw [returnStatus_of_returns hret]
  by_cases hok : (beginBody s).1 = Flag.ok
  · obtain ⟨hsent, e⟩ := transactBody_of_returns hok hret
    have frame := receiveBody_frame n _ hsent
    have hdir : (transactBody n s).dir = !s.params.dirTxLevel := by
      rw [e, endBody_dir, frame.dir, sendBody_dir_of_returns (by simp [hh]) hsent, beginBody_params]
    have hstatus : receiveStatus (transactBody n s).desc.status := by
      rw [e, endBody_hung] at hret
      rw [e, endBody_desc]
      rcases receiveBody_returnsOrSticks n _ hsent with ⟨-, h⟩ | ⟨hstuck, -⟩
      · exact h
      · rw [hret] at hstuck; cases hstuck
    have hphase : (transactBody n s).phase = .idle := by rw [e, endBody_phase]
    have hsaved : (transactBody n s).savedValid = false := by rw [e, endBody_savedValid]
    refine ⟨hphase, hsaved, rfl, .inr hdir, ?_⟩
    unfold receiveStatus at hstatus
    tauto
  · obtain ⟨hstatus, hphase, hsaved, hdir⟩ := beginBody_of_fails (List.mem_singleton.mp hp) hv hok
    have e := transactBody_exit n s hok
    rw [e]
    exact ⟨hphase, hsaved, rfl, .inl hdir, hstatus.imp_right .inl⟩

/-! ## The cleanup guarantee -/

/-- END with a saved configuration: the restoring call is its last event, and restores when it takes effect (R127). -/
theorem endBody_of_saved {s : State} (hv : s.savedValid = true) :
    ∃ ok, (endBody s).events = s.events ++ [.cfgSet s.savedCfg ok] ∧ (ok = true → (endBody s).ch.cfg = s.savedCfg) := by
  cases hc : (moveAt s 0).configureOk with
  | true => exact ⟨true, by rw [endBody_restored s hv hc], fun _ => by rw [endBody_restored s hv hc]⟩
  | false => exact ⟨false, by rw [endBody_unrestored s hv hc], nofun⟩

@[simp] theorem returnStatus_ch (s : State) : (returnStatus s).ch = s.ch := by
  rcases returnStatus_eq s with e | e <;> simp [e]

/-- A BEGIN that answers OK has saved the channel's configuration (R112). -/
theorem beginBody_saved_of_ok {s : State} (hok : (beginBody s).1 = Flag.ok) :
    (beginBody s).2.savedValid = true ∧ (beginBody s).2.savedCfg = s.ch.cfg := by
  rcases beginBody_cases s with ⟨-, e⟩ | ⟨-, -, e⟩ | ⟨hb, hc, -⟩
  · rw [e] at hok; exact absurd hok (show Flag.fail ≠ Flag.ok by decide)
  · rw [e] at hok; exact absurd hok (show Flag.comInternal ≠ Flag.ok by decide)
  · rw [beginBody_applied s hb hc]; exact ⟨rfl, rfl⟩

/-- Settles O40: after a failed BEGIN its own restoring call is the last event (`beginBody_failed`), and else END's is,
with the configuration that BEGIN saved (`endBody_of_saved`). -/
theorem transactLeavesTheChannelAsItWas : Obligations.TransactLeavesTheChannelAsItWas := by
  intro s t n h hret
  obtain ⟨hh, -, rfl⟩ := exec_transact_next h
  rw [returnStatus_hung] at hret
  rw [returnStatus_events, returnStatus_ch]
  by_cases hok : (beginBody s).1 = Flag.ok
  · obtain ⟨hsent, e⟩ := transactBody_of_returns hok hret
    have frame := receiveBody_frame n _ hsent
    obtain ⟨hv, hcfg⟩ := beginBody_saved_of_ok hok
    obtain ⟨ok, hlast, hrestored⟩ := endBody_of_saved (s := receiveBody n (sendBody (beginBody s).2))
      (by rw [frame.savedValid, sendBody_savedValid, hv])
    rw [frame.savedCfg, sendBody_savedCfg, hcfg] at hlast hrestored
    obtain ⟨before, hbefore⟩ : s.events <+: (receiveBody n (sendBody (beginBody s).2)).events :=
      ((beginBody_events_prefix s).trans (sendBody_events_prefix _ (by simp [hh]))).trans
        (receiveBody_appends n _ hsent).events_prefix
    rw [e]
    exact .inr ⟨before ++ [.cfgSet s.ch.cfg ok], ok, by rw [hlast, ← hbefore, List.append_assoc],
      List.getLast?_concat, hrestored⟩
  · rw [transactBody_exit n s hok]
    rcases beginBody_cases s with ⟨-, e⟩ | ⟨hb, hc, -⟩ | ⟨-, -, hok'⟩
    · rw [e]; exact .inl ⟨rfl, rfl⟩
    · rw [beginBody_failed s hb hc]
      exact .inr ⟨_, (moveAt s 3).configureOk, rfl, rfl, fun hrestored => if_pos hrestored⟩
    · exact absurd hok' hok

end Sys2Proof.Machine
end

section
/-! SUPPORT. What the subscriber sees (spec/42_tap.md R142, R143): the stages of RECEIVE and the bodies of the engine
deliver each block right after its read and keep the registration, which no input but reset removes (R141). -/

namespace Sys2Proof.Machine

/-! ## Histories in which deliveries follow reads -/

/-- An event that neither reads nor delivers does not matter. -/
theorem tapsFollowReads_cons_other {fn : TapFn} {ctx : TapCtx} {e : Event} (hrx : e.isRx = false)
    (htap : e.isTap = false) (rest : List Event) :
    Spec.tapsFollowReads fn ctx (e :: rest) = Spec.tapsFollowReads fn ctx rest := by
  cases e with
  | rx => cases hrx
  | tap => cases htap
  | cfgGet | cfgSet | drain | dir | tx | flush | avail | sleep => rfl

/-- A history in which deliveries follow reads is built from empty reads, reads with their delivery, and events that
neither read nor deliver (R51 item 5, R142). -/
theorem tapsFollowReads_induction {fn : TapFn} {ctx : TapCtx} {motive : List Event → Prop} (nil : motive [])
    (emptyRead : ∀ n k rest, motive rest → motive (.rx n k [] :: rest))
    (read : ∀ n k b bs rest, motive rest → motive (.rx n k (b :: bs) :: .tap fn ctx (b :: bs) :: rest))
    (other : ∀ e rest, e.isRx = false → e.isTap = false → motive rest → motive (e :: rest)) {new : List Event}
    (h : Spec.tapsFollowReads fn ctx new) : motive new := by
  fun_induction Spec.tapsFollowReads fn ctx new with
  | case1 => exact nil
  | case2 n k rest ih => exact emptyRead n k rest (ih h)
  | case3 n k b bs fn' ctx' bs' rest ih =>
    obtain ⟨rfl, rfl, rfl, hrest⟩ := h
    exact read n k b bs rest (ih hrest)
  | case4 | case5 => exact h.elim
  | case6 e rest hempty hread hfull htap ih =>
    cases e with
    | rx n k bs =>
      cases bs with
      | nil => exact (hempty n k rfl).elim
      | cons b bs => exact (hfull n k b bs rfl).elim
    | tap fn' ctx' bs => exact (htap fn' ctx' bs rfl).elim
    | cfgGet | cfgSet | drain | dir | tx | flush | avail | sleep => exact other _ rest rfl rfl (ih h)

theorem tapsFollowReads_append {fn : TapFn} {ctx : TapCtx} {first second : List Event}
    (hfirst : Spec.tapsFollowReads fn ctx first) (hsecond : Spec.tapsFollowReads fn ctx second) :
    Spec.tapsFollowReads fn ctx (first ++ second) := by
  refine tapsFollowReads_induction (motive := fun first => Spec.tapsFollowReads fn ctx (first ++ second)) hsecond
    (fun _ _ _ ih => ih) (fun _ _ _ _ _ ih => ⟨rfl, rfl, rfl, ih⟩) (fun e rest hrx htap ih => ?_) hfirst
  rwa [List.cons_append, tapsFollowReads_cons_other hrx htap]

/-- The subscriber gets the bytes read, in order (R142). -/
theorem tapBytes_eq_rxBytes {fn : TapFn} {ctx : TapCtx} {new : List Event} (h : Spec.tapsFollowReads fn ctx new) :
    new.flatMap Event.tapBytes = new.flatMap Event.rxBytes := by
  refine tapsFollowReads_induction (motive := fun new => new.flatMap Event.tapBytes = new.flatMap Event.rxBytes) rfl
    (fun _ _ _ ih => ih) (fun n k b bs rest ih => ?_) (fun e rest hrx htap ih => ?_) h
  · simp [Event.tapBytes, Event.rxBytes, ih]
  · cases e with
    | rx => cases hrx
    | tap => cases htap
    | cfgGet | cfgSet | drain | dir | tx | flush | avail | sleep => exact ih

/-- The events `new` show each read to the subscriber registered in `s`, and nothing to anybody else (R142, R143). -/
def ShowsReads (s : State) (new : List Event) : Prop :=
  (s.tapValid = true → Spec.tapsFollowReads s.tapFn s.tapCtx new) ∧
    (s.tapValid = false → new.countP Event.isTap = 0)

theorem ShowsReads.nil (s : State) : ShowsReads s [] := ⟨fun _ => trivial, fun _ => rfl⟩

theorem ShowsReads.append {s : State} {first second : List Event} (h : ShowsReads s first)
    (k : ShowsReads s second) : ShowsReads s (first ++ second) := by
  obtain ⟨hseen, hunseen⟩ := h
  obtain ⟨kseen, kunseen⟩ := k
  exact ⟨fun hv => tapsFollowReads_append (hseen hv) (kseen hv),
    fun hv => by rw [List.countP_append, hunseen hv, kunseen hv]⟩

theorem showsReads_of_silent (s : State) {new : List Event} (h : ∀ e ∈ new, e.isRx = false ∧ e.isTap = false) :
    ShowsReads s new := by
  induction new with
  | nil => exact .nil s
  | cons e rest ih =>
    obtain ⟨⟨hrx, htap⟩, hrest⟩ := List.forall_mem_cons.mp h
    obtain ⟨hseen, hunseen⟩ := ih hrest
    exact ⟨fun hv => by rw [tapsFollowReads_cons_other hrx htap]; exact hseen hv,
      fun hv => by simp [htap, hunseen hv]⟩

/-- A read with its delivery, if there is a byte and a subscriber to deliver it to (R142). -/
theorem showsReads_of_read (s : State) (n k : Nat) (bs : List Byte) :
    ShowsReads s (.rx n k bs :: deliveries s bs) := by
  cases hv : s.tapValid with
  | false => exact ⟨fun h => (nomatch hv.symm.trans h), fun _ => by simp [deliveries, hv, Event.isTap]⟩
  | true =>
    refine ⟨fun _ => ?_, fun h => (nomatch hv.symm.trans h)⟩
    cases bs with
    | nil => simp [deliveries, Spec.tapsFollowReads]
    | cons b bs => simp [deliveries, hv, Spec.tapsFollowReads]

/-! ## The operations of the engine -/

/-- From `s` to `t` the registration stays, and the events in between show each read to it. -/
def TapsReads (s t : State) : Prop :=
  (t.tapFn = s.tapFn ∧ t.tapCtx = s.tapCtx ∧ t.tapValid = s.tapValid) ∧
    ∃ new, t.events = s.events ++ new ∧ ShowsReads s new

theorem TapsReads.refl (s : State) : TapsReads s s :=
  ⟨⟨rfl, rfl, rfl⟩, [], (List.append_nil _).symm, .nil s⟩

theorem TapsReads.trans {s t u : State} (h : TapsReads s t) (k : TapsReads t u) : TapsReads s u := by
  obtain ⟨⟨hfn, hctx, hv⟩, first, hfirst, hshows⟩ := h
  obtain ⟨⟨kfn, kctx, kv⟩, second, hsecond, kshows⟩ := k
  have kshows' : ShowsReads s second := by rwa [ShowsReads, hfn, hctx, hv] at kshows
  exact ⟨⟨kfn.trans hfn, kctx.trans hctx, kv.trans hv⟩, first ++ second,
    by rw [hsecond, hfirst, List.append_assoc], hshows.append kshows'⟩

/-- The registration stays, and the events in between neither read nor deliver. -/
theorem TapsReads.of_silent {s t : State} {new : List Event}
    (hreg : t.tapFn = s.tapFn ∧ t.tapCtx = s.tapCtx ∧ t.tapValid = s.tapValid) (hnew : t.events = s.events ++ new)
    (hsilent : new.all (fun e => !e.isRx && !e.isTap) = true) : TapsReads s t :=
  ⟨hreg, new, hnew, showsReads_of_silent s (by simpa using hsilent)⟩

theorem afterRead_tapsReads (n : Nat) (s : State) : TapsReads s (afterRead n s) :=
  ⟨⟨rfl, rfl, rfl⟩, _, rfl, showsReads_of_read s n _ _⟩

theorem chAvail_tapsReads (s : State) : TapsReads s (chAvail s).2 :=
  .of_silent ⟨rfl, rfl, rfl⟩ rfl rfl

theorem pollSleep_tapsReads (s : State) : TapsReads s (pollSleep s) :=
  .of_silent ⟨rfl, rfl, rfl⟩ rfl rfl

theorem poll_tapsReads (fuel : Nat) (s : State) : TapsReads s (poll fuel s).2 := by
  induction fuel generalizing s with
  | zero => exact chAvail_tapsReads s
  | succ fuel ih =>
    by_cases hfound : Config.hdrLen ≤ (chAvail s).1
    · rw [poll_of_available _ hfound]
      exact chAvail_tapsReads s
    · rw [poll_succ_of_below (Nat.not_le.mp hfound)]
      exact (chAvail_tapsReads s).trans ((pollSleep_tapsReads _).trans (ih _))

theorem checksumStage_tapsReads (s : State) (hh : s.hung = none) : TapsReads s (checksumStage s) := by
  rcases checksumStage_cases s hh with ⟨-, -, e⟩ | ⟨-, -, e⟩ | ⟨c, -, e⟩ <;> rw [e]
  · exact .refl s
  · exact afterRead_tapsReads 1 s
  · exact afterRead_tapsReads 1 s

theorem payloadStage_tapsReads (s : State) (hh : s.hung = none) : TapsReads s (payloadStage s) := by
  have hread : TapsReads s (setData (fetched s.expCnt s) (afterRead s.expCnt s)) := afterRead_tapsReads s.expCnt s
  rcases payloadStage_cases s hh with ⟨-, e⟩ | ⟨-, -, -, e⟩ | ⟨-, -, -, e⟩ | ⟨-, -, e⟩ <;> rw [e]
  · exact checksumStage_tapsReads s hh
  · exact .refl s
  · exact hread
  · exact hread.trans (checksumStage_tapsReads _ hh)

theorem decodeResponse_tapsReads (s : State) (hh : s.hung = none) : TapsReads s (decodeResponse s) := by
  rcases decodeResponse_cases s with ⟨-, e⟩ | ⟨-, e⟩ <;> rw [e]
  · exact .refl s
  · exact payloadStage_tapsReads (captureHeader s) hh

theorem headerStage_tapsReads (s : State) (hh : s.hung = none) : TapsReads s (headerStage s) := by
  rcases headerStage_cases s hh with ⟨-, -, e⟩ | ⟨-, -, e⟩ | ⟨-, e⟩ <;> rw [e]
  · exact .refl s
  · exact afterRead_tapsReads 5 s
  · exact (afterRead_tapsReads 5 s).trans
      (decodeResponse_tapsReads { afterRead 5 s with hdr := overwrite s.hdr (fetched 5 s) } hh)

theorem receiveBody_tapsReads (n : Nat) (s : State) (hh : s.hung = none) : TapsReads s (receiveBody n s) := by
  have hpoll : TapsReads s (poll Config.pollMax (latchReceive n s)).2 := poll_tapsReads _ (latchReceive n s)
  rcases receiveBody_cases n s with ⟨-, e⟩ | ⟨-, -, e⟩ | ⟨-, -, e⟩ <;> rw [e]
  · exact .refl s
  · exact hpoll
  · exact hpoll.trans (headerStage_tapsReads _ (by simp [hh]))

theorem beginBody_tapsReads (s : State) : TapsReads s (beginBody s).2 := by
  rcases beginBody_cases s with ⟨-, e⟩ | ⟨hb, hc, -⟩ | ⟨hb, hc, -⟩
  · rw [e]; exact .refl s
  · rw [beginBody_failed s hb hc]; exact .of_silent ⟨rfl, rfl, rfl⟩ rfl rfl
  · rw [beginBody_applied s hb hc]; exact .of_silent ⟨rfl, rfl, rfl⟩ rfl rfl

theorem sendBody_tapsReads (s : State) (hh : s.hung = none) : TapsReads s (sendBody s) := by
  cases hflush : (moveAt s 1).flushReturns with
  | true => rw [sendBody_returns s hh hflush]; exact .of_silent ⟨rfl, rfl, rfl⟩ rfl rfl
  | false => rw [sendBody_never s hflush]; exact .of_silent ⟨rfl, rfl, rfl⟩ rfl rfl

theorem endBody_tapsReads (s : State) : TapsReads s (endBody s) := by
  cases hv : s.savedValid with
  | false => rw [endBody_nothing s hv]; exact .refl s
  | true =>
    cases hc : (moveAt s 0).configureOk with
    | true => rw [endBody_restored s hv hc]; exact .of_silent ⟨rfl, rfl, rfl⟩ rfl rfl
    | false => rw [endBody_unrestored s hv hc]; exact .of_silent ⟨rfl, rfl, rfl⟩ rfl rfl

theorem transactBody_tapsReads (n : Nat) (s : State) (hh : s.hung = none) : TapsReads s (transactBody n s) := by
  have hbegun := beginBody_tapsReads s
  have hsent := hbegun.trans (sendBody_tapsReads (beginBody s).2 (by simp [hh]))
  have hreceived (hs : (sendBody (beginBody s).2).hung = none) :
      TapsReads s (receiveBody n (sendBody (beginBody s).2)) := hsent.trans (receiveBody_tapsReads n _ hs)
  rcases transactBody_cases n s with ⟨-, e⟩ | ⟨-, -, e⟩ | ⟨-, hs, -, e⟩ | ⟨-, hs, -, e⟩ <;> rw [e]
  · exact hbegun
  · exact hsent
  · exact hreceived hs
  · exact (hreceived hs).trans (endBody_tapsReads _)

/-! ## One instruction -/

/-- SETTAP registers a subscriber (R140); every other instruction shows its reads to the one there is (R142). -/
theorem Executes.tapsReads_or_registers {i : Instr} {s t : State} (h : Executes s i t) :
    TapsReads s t ∨ ∃ fn ctx, t = { s with tapFn := fn, tapCtx := ctx, tapValid := true } := by
  cases h with
  | beginTxn => exact .inl (beginBody_tapsReads s)
  | send hh => exact .inl (sendBody_tapsReads s hh)
  | receive n hh => exact .inl (receiveBody_tapsReads n s hh)
  | endTxn => exact .inl (endBody_tapsReads s)
  | transact n hh =>
    have hbody := transactBody_tapsReads n s hh
    rcases returnStatus_eq (transactBody n s) with e | e <;> rw [e] <;> exact .inl hbody
  | setTap fn ctx => exact .inr ⟨fn, ctx, rfl⟩
  | setTapEmpty | checksum | encode | packet => exact .inl (.refl s)

/-- Settles O49: `Executes.tapsReads_or_registers`; a SETTAP that registers appends nothing. -/
theorem tapSeesExactlyTheBytesRead : Obligations.TapSeesExactlyTheBytesRead := by
  intro i s t h
  obtain ⟨new, hnew, hseen, hunseen⟩ : ∃ new, t.events = s.events ++ new ∧ ShowsReads s new := by
    rcases (exec_next h).tapsReads_or_registers with ⟨-, hshows⟩ | ⟨fn, ctx, rfl⟩
    · exact hshows
    · exact ⟨[], (List.append_nil _).symm, .nil s⟩
  exact ⟨new, hnew, fun hv => ⟨hseen hv, tapBytes_eq_rxBytes (hseen hv)⟩, hunseen⟩

/-! ## The registration -/

theorem exec_setTap_eq (fn : TapFn) (ctx : TapCtx) (s : State) : exec (.setTap fn ctx) s =
    acceptIn anyPhase s (.next (if fn = .empty then s else { s with tapFn := fn, tapCtx := ctx, tapValid := true })) :=
  rfl

/-- Settles O47: every phase accepts SETTAP, and the two clauses are the branches of its rule (R140). -/
theorem setTapReplacesTheSubscriber : Obligations.SetTapReplacesTheSubscriber := by
  intro s k ctx hh
  rw [exec_setTap_eq, exec_setTap_eq, acceptIn_of _ hh (mem_anyPhase _), acceptIn_of _ hh (mem_anyPhase _),
    if_pos rfl, if_neg (by exact nofun)]
  exact ⟨rfl, rfl⟩

theorem Executes.keeps_subscriber {i : Instr} {s t : State} (h : Executes s i t) (hv : s.tapValid = true) :
    t.tapValid = true := by
  rcases h.tapsReads_or_registers with ⟨⟨-, -, hsame⟩, -⟩ | ⟨fn, ctx, rfl⟩
  · exact hsame.trans hv
  · rfl

theorem afterCommand_keeps_subscriber {i : Instr} {s t : State} (h : afterCommand s (exec i s) = .next t)
    (hv : s.tapValid = true) : t.tapValid = true := by
  cases he : exec i s with
  | next u => rw [he] at h; cases h; exact (exec_next he).keeps_subscriber hv
  | fault f => rw [he] at h; cases h
  | refused r => rw [he] at h; cases h; exact hv

/-- Of the inputs only reset removes the subscriber (R141, R190). -/
theorem runInput_keeps_subscriber {input : Input} {s t : State} (hinput : input ≠ .reset)
    (h : runInput input s = .next t) (hv : s.tapValid = true) : t.tapValid = true := by
  cases input with
  | instr bytes =>
    cases hd : decode bytes with
    | ok p => exact afterCommand_keeps_subscriber ((runInput_instr hd s).symm.trans h) hv
    | error e => simp [runInput, hd] at h
  | write r v =>
    obtain ⟨d, rfl⟩ := hostWrite_next h
    exact hv
  | busEnable b => cases h; exact hv
  | reset => exact absurd rfl hinput
  | otherConfigure c =>
    rcases otherConfigure_cases c s with ⟨-, e⟩ | ⟨-, e⟩ <;> cases e.symm.trans h
    exact hv

/-- Settles O50: a step changes nothing or takes its next input (`runInput_keeps_subscriber`). -/
theorem subscriberStaysUntilReset : Obligations.SubscriberStaysUntilReset := by
  intro s t hv hhead h
  by_cases hh : s.hung = none
  · cases hi : s.inputs with
    | nil => rw [step_of_no_input hi] at h; cases h; exact hv
    | cons input rest =>
      have hinput : input ≠ .reset := fun e => hhead (by rw [hi, e]; rfl)
      exact runInput_keeps_subscriber hinput ((step_of_input hh hi).symm.trans h) hv
  · rw [step_of_stuck hh] at h; cases h; exact hv

end Sys2Proof.Machine
end

section
/-! SUPPORT. The tap is passive (spec/42_tap.md R144): every operation commutes with removing the registration and its
deliveries, because no operation reads them. -/

namespace Sys2Proof.Machine

@[simp] theorem withoutTap_stuck (s : State) : s.withoutTap.stuck = s.stuck := rfl

/-! ## BEGIN, SEND, END -/

theorem beginBody_withoutTap (s : State) :
    beginBody s.withoutTap = ((beginBody s).1, (beginBody s).2.withoutTap) := by
  cases hb : s.busEn with
  | false => rw [beginBody_disabled s hb, beginBody_disabled s.withoutTap hb]
  | true =>
    cases hc : (moveAt s 2).configureOk with
    | true =>
      rw [beginBody_applied s hb hc, beginBody_applied s.withoutTap hb hc]
      simp [State.withoutTap, Event.isTap, moveAt]
    | false =>
      rw [beginBody_failed s hb hc, beginBody_failed s.withoutTap hb hc]
      simp [State.withoutTap, Event.isTap, moveAt]

theorem sendBody_withoutTap {s : State} (hh : s.hung = none) : sendBody s.withoutTap = (sendBody s).withoutTap := by
  cases hflush : (moveAt s 1).flushReturns with
  | true =>
    rw [sendBody_returns s hh hflush, sendBody_returns s.withoutTap hh hflush]
    simp [State.withoutTap, Event.isTap, moveAt]
  | false =>
    rw [sendBody_never s hflush, sendBody_never s.withoutTap hflush]
    simp [State.withoutTap, Event.isTap, moveAt]

theorem endBody_withoutTap (s : State) : endBody s.withoutTap = (endBody s).withoutTap := by
  cases hv : s.savedValid with
  | false => rw [endBody_nothing s hv, endBody_nothing s.withoutTap hv]; rfl
  | true =>
    cases hc : (moveAt s 0).configureOk with
    | true =>
      rw [endBody_restored s hv hc, endBody_restored s.withoutTap hv hc]
      simp [State.withoutTap, Event.isTap, moveAt]
    | false =>
      rw [endBody_unrestored s hv hc, endBody_unrestored s.withoutTap hv hc]
      simp [State.withoutTap, Event.isTap, moveAt]

/-! ## RECEIVE -/

/-- An event that is no delivery stays in the history. -/
theorem emit_withoutTap {e : Event} (he : e.isTap = false) (s : State) :
    emit e s.withoutTap = (emit e s).withoutTap := by
  simp [emit, State.withoutTap, he]

theorem chAvail_withoutTap (s : State) : chAvail s.withoutTap = ((chAvail s).1, (chAvail s).2.withoutTap) :=
  congrArg _ (emit_withoutTap (e := .avail (chAvail s).1) rfl (envTick s))

theorem pollSleep_withoutTap (s : State) : pollSleep s.withoutTap = (pollSleep s).withoutTap :=
  emit_withoutTap (e := .sleep Config.pollUs) rfl { envTick s with pollcnt := s.pollcnt + 1 }

theorem poll_withoutTap (fuel : Nat) (s : State) :
    poll fuel s.withoutTap = ((poll fuel s).1, (poll fuel s).2.withoutTap) := by
  induction fuel generalizing s with
  | zero => simp only [poll, chAvail_withoutTap]
  | succ fuel ih =>
    simp only [poll, chAvail_withoutTap, pollSleep_withoutTap, ih]
    split <;> rfl

theorem deliveries_filter (s : State) (bs : List Byte) : (deliveries s bs).filter (fun e => !e.isTap) = [] := by
  unfold deliveries
  split <;> rfl

theorem afterRead_withoutTap (n : Nat) (s : State) : afterRead n s.withoutTap = (afterRead n s).withoutTap := by
  have hnone (bs : List Byte) : deliveries s.withoutTap bs = [] := if_neg (by simp [State.withoutTap])
  have hfetch : fetched n s.withoutTap = fetched n s := rfl
  have hread (k : Nat) (bs : List Byte) : (s.events ++ .rx n k bs :: deliveries s bs).filter (fun e => !e.isTap) =
      s.events.filter (fun e => !e.isTap) ++ [.rx n k bs] := by
    rw [List.filter_append, List.filter_cons_of_pos rfl, deliveries_filter]
  rw [afterRead, hnone, hfetch]
  simp only [State.withoutTap, afterRead, hread]
  rfl

/-- Whether a read is stuck, and what it fetches, has nothing to do with the tap. -/
theorem readAndTap_withoutTap (n : Nat) (s : State) :
    readAndTap n s.withoutTap = ((readAndTap n s).1, (readAndTap n s).2.withoutTap) := by
  rcases readAndTap_cases n s with ⟨hreturns, e⟩ | ⟨hshort, hm, e⟩ <;>
    rcases readAndTap_cases n s.withoutTap with ⟨hreturns', e'⟩ | ⟨hshort', hm', e'⟩
  · rw [e, e', afterRead_withoutTap]; rfl
  · exact absurd hm' (hreturns.resolve_left (Nat.ne_of_lt hshort'))
  · exact absurd hm (hreturns'.resolve_left (Nat.ne_of_lt hshort))
  · rw [e, e']; rfl

theorem checksumStage_withoutTap (s : State) : checksumStage s.withoutTap = (checksumStage s).withoutTap := by
  have hcheck (c : Byte) (t : State) :
      checkChecksum (setCksum c t.withoutTap) = (checkChecksum (setCksum c t)).withoutTap := rfl
  simp only [checksumStage, readAndTap_withoutTap, withoutTap_stuck, hcheck]
  generalize readAndTap 1 s = r
  split
  · rfl
  · split <;> rfl

theorem payloadStage_withoutTap (s : State) : payloadStage s.withoutTap = (payloadStage s).withoutTap := by
  have hcount : s.withoutTap.expCnt = s.expCnt := rfl
  have hwhole (bs : List Byte) (t : State) :
      checksumStage (setData bs t.withoutTap) = (checksumStage (setData bs t)).withoutTap :=
    checksumStage_withoutTap (setData bs t)
  simp only [payloadStage, hcount, readAndTap_withoutTap, withoutTap_stuck, checksumStage_withoutTap, hwhole]
  generalize readAndTap s.expCnt s = r
  split
  · rfl
  · split
    · rfl
    · split <;> rfl

theorem decodeResponse_withoutTap (s : State) : decodeResponse s.withoutTap = (decodeResponse s).withoutTap := by
  rcases decodeResponse_cases s with ⟨hbad, e⟩ | ⟨hgood, e⟩ <;>
    rcases decodeResponse_cases s.withoutTap with ⟨hbad', e'⟩ | ⟨hgood', e'⟩
  · rw [e, e']; rfl
  · exact absurd hgood' hbad
  · exact absurd hgood hbad'
  · rw [e, e', ← payloadStage_withoutTap]; rfl

theorem headerStage_withoutTap (s : State) : headerStage s.withoutTap = (headerStage s).withoutTap := by
  have hheader (bs : List Byte) (t : State) :
      decodeResponse { t.withoutTap with hdr := overwrite t.withoutTap.hdr bs } =
        (decodeResponse { t with hdr := overwrite t.hdr bs }).withoutTap :=
    decodeResponse_withoutTap { t with hdr := overwrite t.hdr bs }
  simp only [headerStage, readAndTap_withoutTap, withoutTap_stuck, hheader]
  split
  · rfl
  · split <;> rfl

theorem receiveBody_withoutTap (n : Nat) (s : State) : receiveBody n s.withoutTap = (receiveBody n s).withoutTap := by
  have hlatch : latchReceive n s.withoutTap = (latchReceive n s).withoutTap := rfl
  have hid : s.withoutTap.desc.id = s.desc.id := rfl
  simp only [receiveBody, hid, hlatch, poll_withoutTap, headerStage_withoutTap]
  split
  · rfl
  · split <;> rfl

/-! ## The instructions -/

theorem transactBody_withoutTap (n : Nat) {s : State} (hh : s.hung = none) :
    transactBody n s.withoutTap = (transactBody n s).withoutTap := by
  have hsend := sendBody_withoutTap (s := (beginBody s).2) (by simp [hh])
  simp only [transactBody, beginBody_withoutTap, hsend, receiveBody_withoutTap, endBody_withoutTap, withoutTap_stuck]
  split
  · rfl
  · split
    · rfl
    · split <;> rfl

theorem returnStatus_withoutTap (s : State) : returnStatus s.withoutTap = (returnStatus s).withoutTap := by
  unfold returnStatus
  rw [withoutTap_stuck]
  split <;> rfl

/-- Settles O48: the admission looks at neither the tap nor the history (`acceptIn_mapNext`), and the body of each
command commutes with `withoutTap`. -/
theorem tapNeverAltersTheOutcome : Obligations.TapNeverAltersTheOutcome := by
  intro i s hi
  cases i with
  | beginTxn => exact acceptIn_mapNext _ rfl rfl fun _ => by rw [beginBody_withoutTap]; rfl
  | send => exact acceptIn_mapNext _ rfl rfl fun hh => require_mapNext _ _ _ (by rw [sendBody_withoutTap hh]; rfl)
  | receive n => exact acceptIn_mapNext _ rfl rfl fun _ => require_mapNext _ _ _ (by rw [receiveBody_withoutTap]; rfl)
  | endTxn => exact acceptIn_mapNext _ rfl rfl fun _ => by rw [endBody_withoutTap]; rfl
  | transact n =>
    exact acceptIn_mapNext _ rfl rfl fun hh => require_mapNext _ _ _ (require_mapNext _ _ _
      (by rw [transactBody_withoutTap n hh, returnStatus_withoutTap]; rfl))
  | setTap fn ctx => exact absurd rfl (hi fn ctx)
  | checksum | encode => exact acceptIn_mapNext _ rfl rfl fun _ => require_mapNext _ _ _ rfl
  | decode => rfl
  | reserved0 | reservedA | reservedB | reservedC | reservedD | reservedE | reservedF => rfl
  | reqPlain | reqAddr | reqPcnt | reqAddrPcnt | reqSync | resp => rfl

end Sys2Proof.Machine
end

section
/-! SUPPORT. The framer has no trap and no mode of privilege (spec/60_exceptions.md R150, R162): no instruction faults,
no instruction writes `BUS_EN`, and every operation but BEGIN commutes with changing it, because none of them reads it
(spec/10_state.md R25). -/

namespace Sys2Proof.Machine

/-! ## No fault -/

theorem acceptIn_ne_fault (phases : List Phase) (s : State) {run : Host.Outcome State Fault Refusal} {f : Fault}
    (hrun : run ≠ .fault f) : acceptIn phases s run ≠ .fault f := by
  unfold acceptIn
  split_ifs
  · exact nofun
  · exact hrun
  · exact nofun

theorem require_ne_fault (c : Bool) (why : Refusal) {run : Host.Outcome State Fault Refusal} {f : Fault}
    (hrun : run ≠ .fault f) : require c why run ≠ .fault f := by
  cases c with
  | true => exact hrun
  | false => exact nofun

/-- Settles O57: what a command does when it is accepted is a next state, and its admission and requirements refuse
instead of faulting. -/
theorem noInstructionFaults : Obligations.NoInstructionFaults := by
  intro i s f
  cases i with
  | beginTxn | endTxn | setTap => exact acceptIn_ne_fault _ _ nofun
  | send | receive | checksum | encode => exact acceptIn_ne_fault _ _ (require_ne_fault _ _ nofun)
  | transact => exact acceptIn_ne_fault _ _ (require_ne_fault _ _ (require_ne_fault _ _ nofun))
  | decode | reserved0 | reservedA | reservedB | reservedC | reservedD | reservedE | reservedF => exact nofun
  | reqPlain | reqAddr | reqPcnt | reqAddrPcnt | reqSync | resp => exact nofun

/-! ## No instruction writes the bus-enable flag -/

@[simp] theorem releaseLine_busEn (s : State) : (releaseLine s).busEn = s.busEn := by
  unfold releaseLine; split <;> rfl
@[simp] theorem beginBody_busEn (s : State) : (beginBody s).2.busEn = s.busEn := by
  unfold beginBody; dsimp only; split_ifs <;> simp
@[simp] theorem sendBody_busEn (s : State) : (sendBody s).busEn = s.busEn := by
  simp [sendBody]
@[simp] theorem endBody_busEn (s : State) : (endBody s).busEn = s.busEn := by
  unfold endBody; dsimp only; split <;> simp
@[simp] theorem returnStatus_busEn (s : State) : (returnStatus s).busEn = s.busEn := by
  rcases returnStatus_eq s with e | e <;> simp [e]

@[simp] theorem transactBody_busEn (n : Nat) (s : State) : (transactBody n s).busEn = s.busEn := by
  rcases transactBody_cases n s with ⟨_, e⟩ | ⟨_, _, e⟩ | ⟨_, hs, _, e⟩ | ⟨_, hs, _, e⟩
  · simp [e]
  · simp [e]
  · simp [e, (receiveBody_frame n _ hs).busEn]
  · simp [e, (receiveBody_frame n _ hs).busEn]

theorem Executes.busEn_eq {i : Instr} {s t : State} (h : Executes s i t) : t.busEn = s.busEn := by
  cases h with
  | beginTxn | send | endTxn | transact => simp
  | receive n hh => exact (receiveBody_frame n s hh).busEn
  | setTapEmpty | setTap | checksum | encode | packet => rfl

/-! ## No operation but BEGIN reads the bus-enable flag -/

section Commutes

variable (b : Bool)

@[simp] theorem setBusEnable_stuck (s : State) : (setBusEnable b s).stuck = s.stuck := rfl

theorem sendBody_setBusEnable {s : State} (hh : s.hung = none) :
    sendBody (setBusEnable b s) = setBusEnable b (sendBody s) := by
  cases hflush : (moveAt s 1).flushReturns with
  | true => rw [sendBody_returns s hh hflush, sendBody_returns (setBusEnable b s) hh hflush]; rfl
  | false => rw [sendBody_never s hflush, sendBody_never (setBusEnable b s) hflush]; rfl

theorem endBody_setBusEnable (s : State) : endBody (setBusEnable b s) = setBusEnable b (endBody s) := by
  cases hv : s.savedValid with
  | false => rw [endBody_nothing s hv, endBody_nothing (setBusEnable b s) hv]; rfl
  | true =>
    cases hc : (moveAt s 0).configureOk with
    | true => rw [endBody_restored s hv hc, endBody_restored (setBusEnable b s) hv hc]; rfl
    | false => rw [endBody_unrestored s hv hc, endBody_unrestored (setBusEnable b s) hv hc]; rfl

theorem poll_setBusEnable (fuel : Nat) (s : State) :
    poll fuel (setBusEnable b s) = ((poll fuel s).1, setBusEnable b (poll fuel s).2) := by
  have hasked (u : State) : chAvail (setBusEnable b u) = ((chAvail u).1, setBusEnable b (chAvail u).2) := rfl
  have hslept (u : State) : pollSleep (setBusEnable b u) = setBusEnable b (pollSleep u) := rfl
  induction fuel generalizing s with
  | zero => rfl
  | succ fuel ih =>
    simp only [poll, hasked, hslept, ih]
    split <;> rfl

/-- The flag decides neither what a read fetches nor whether it is stuck. -/
theorem readAndTap_setBusEnable (n : Nat) (s : State) :
    readAndTap n (setBusEnable b s) = ((readAndTap n s).1, setBusEnable b (readAndTap n s).2) := by
  rcases readAndTap_cases n s with ⟨hreturns, e⟩ | ⟨hshort, hm, e⟩ <;>
    rcases readAndTap_cases n (setBusEnable b s) with ⟨hreturns', e'⟩ | ⟨hshort', hm', e'⟩
  · rw [e, e']; rfl
  · exact absurd hm' (hreturns.resolve_left (Nat.ne_of_lt hshort'))
  · exact absurd hm (hreturns'.resolve_left (Nat.ne_of_lt hshort))
  · rw [e, e']; rfl

theorem checksumStage_setBusEnable (s : State) :
    checksumStage (setBusEnable b s) = setBusEnable b (checksumStage s) := by
  have hcheck (c : Byte) (u : State) :
      checkChecksum (setCksum c (setBusEnable b u)) = setBusEnable b (checkChecksum (setCksum c u)) := rfl
  simp only [checksumStage, readAndTap_setBusEnable, setBusEnable_stuck, hcheck]
  split
  · rfl
  · split <;> rfl

theorem payloadStage_setBusEnable (s : State) : payloadStage (setBusEnable b s) = setBusEnable b (payloadStage s) := by
  have hwhole (bs : List Byte) (u : State) :
      checksumStage (setData bs (setBusEnable b u)) = setBusEnable b (checksumStage (setData bs u)) :=
    checksumStage_setBusEnable b (setData bs u)
  simp only [payloadStage, setBusEnable_expCnt, readAndTap_setBusEnable, setBusEnable_stuck,
    checksumStage_setBusEnable, hwhole]
  split_ifs <;> rfl

theorem decodeResponse_setBusEnable (s : State) :
    decodeResponse (setBusEnable b s) = setBusEnable b (decodeResponse s) := by
  have hcapture : captureHeader (setBusEnable b s) = setBusEnable b (captureHeader s) := rfl
  simp only [decodeResponse, hcapture, setBusEnable_hdr, setBusEnable_expId, setBusEnable_expCnt,
    payloadStage_setBusEnable]
  split_ifs <;> rfl

theorem headerStage_setBusEnable (s : State) : headerStage (setBusEnable b s) = setBusEnable b (headerStage s) := by
  have hheader (bs : List Byte) (u : State) :
      decodeResponse { setBusEnable b u with hdr := overwrite (setBusEnable b u).hdr bs } =
        setBusEnable b (decodeResponse { u with hdr := overwrite u.hdr bs }) :=
    decodeResponse_setBusEnable b { u with hdr := overwrite u.hdr bs }
  simp only [headerStage, readAndTap_setBusEnable, setBusEnable_stuck, hheader]
  split_ifs <;> rfl

theorem receiveBody_setBusEnable (n : Nat) (s : State) :
    receiveBody n (setBusEnable b s) = setBusEnable b (receiveBody n s) := by
  have hlatch : latchReceive n (setBusEnable b s) = setBusEnable b (latchReceive n s) := rfl
  simp only [receiveBody, setBusEnable_desc, hlatch, poll_setBusEnable, headerStage_setBusEnable]
  split_ifs <;> rfl

/-- An instruction other than BEGIN and TRANSACT does the same whatever the flag: its admission does not look at it
(`acceptIn_mapNext`), and its body commutes with changing it. -/
theorem exec_setBusEnable (i : Instr) (s : State) (hbegin : i ≠ .beginTxn) (htransact : ∀ n, i ≠ .transact n) :
    exec i (setBusEnable b s) = Spec.mapNext (setBusEnable b) (exec i s) := by
  cases i with
  | beginTxn => exact absurd rfl hbegin
  | send => exact acceptIn_mapNext _ rfl rfl fun hh => require_mapNext _ _ _ (by rw [sendBody_setBusEnable b hh]; rfl)
  | receive n => exact acceptIn_mapNext _ rfl rfl fun _ => require_mapNext _ _ _ (by rw [receiveBody_setBusEnable]; rfl)
  | endTxn => exact acceptIn_mapNext _ rfl rfl fun _ => by rw [endBody_setBusEnable]; rfl
  | transact n => exact absurd rfl (htransact n)
  | setTap fn ctx => exact acceptIn_mapNext _ rfl rfl fun _ => by split <;> rfl
  | checksum | encode => exact acceptIn_mapNext _ rfl rfl fun _ => require_mapNext _ _ _ rfl
  | decode => rfl
  | reserved0 | reservedA | reservedB | reservedC | reservedD | reservedE | reservedF => rfl
  | reqPlain | reqAddr | reqPcnt | reqAddrPcnt | reqSync | resp => rfl

end Commutes

/-- Settles O58: `Executes.busEn_eq`, that no instruction writes the flag, and `exec_setBusEnable`, that BEGIN and
TRANSACT alone read it. -/
theorem busEnableGatesBeginAndTransactOnly : Obligations.BusEnableGatesBeginAndTransactOnly :=
  ⟨fun _ _ _ h => (exec_next h).busEn_eq, fun i s b hbegin htransact => exec_setBusEnable b i s hbegin htransact⟩

end Sys2Proof.Machine
end

section
/-! SUPPORT. The reset event, and a response that echoes the request (spec/70_reset_and_hazards.md R190, R205). -/

namespace Sys2Proof.Machine

/-! ## An echo of the request -/

/-- DECODE with the whole packet of a well-formed request in hand, its own id and length expected: the bytes between
instruction and checksum pass for parameters, and the checksum is right because R90 covers both alike (R102, R205). -/
theorem decodeResponse_of_echo {s : State} {d : Desc} {rest : List Byte} (h : d.wf = true) (hh : s.hung = none)
    (hq : s.quietChannel = true) (hhdr : s.hdr = #v[0xFF, 0xFF, d.id, d.len, d.instr]) (hid : s.expId = d.id)
    (hcnt : s.expCnt = d.len.toNat - 2) (hrx : s.ch.rx = d.between ++ d.checksum :: rest) :
    (decodeResponse s).desc = { Spec.captured s.desc s.hdr with
        data := overwrite s.desc.data d.between, cksum := d.checksum, status := Flag.ok } ∧
      (decodeResponse s).ch.rx = rest := by
  have hgood : Spec.headerGood s.hdr s.expId s.expCnt := by
    rw [hhdr, hid, hcnt]
    exact headerGood_of_wf h d.instr
  have hcount : d.between.length = s.expCnt := (between_length_of_wf h).trans hcnt.symm
  obtain ⟨hdesc, hleft, -⟩ := decodeResponse_of_whole hh hq hgood hcount hrx
  have hchecksum : d.checksum = Spec.responseChecksum s.hdr d.between := by rw [hhdr, responseChecksum_of_packet]
  rw [if_pos hchecksum] at hdesc
  exact ⟨hdesc, hleft⟩

/-- Settles O34: the packet's first five bytes are the header RECEIVE reads (`receiveBody_of_header`), and DECODE takes
the rest of it for a response (`decodeResponse_of_echo`). -/
theorem echoOfTheRequestIsReadAsAResponse : Obligations.EchoOfTheRequestIsReadAsAResponse := by
  intro s rest hready hw hid hq hrx
  obtain ⟨hh, hp⟩ := hready
  have hcount : s.desc.len.toNat - 2 ≤ 253 := Nat.sub_le_sub_right (Nat.le_of_lt_succ s.desc.len.isLt) 2
  have hstream : s.ch.rx = (#v[0xFF, 0xFF, s.desc.id, s.desc.len, s.desc.instr] : Vector Byte 5).toList
      ++ (s.desc.between ++ s.desc.checksum :: rest) := by
    rw [hrx, packet_eq_append, List.append_assoc, List.append_assoc]
    rfl
  have hbody := receiveBody_of_header (s.desc.len.toNat - 2) hid hh hq hstream
  obtain ⟨hdesc, hleft⟩ := decodeResponse_of_echo (s := headerReceived _ _ _ s) hw hh
    (headerReceived_quiet _ _ _ hq) rfl rfl rfl rfl
  rw [← hbody] at hdesc hleft
  exact ⟨_, exec_receive ⟨hh, hp⟩ hcount, (congrArg Desc.status hdesc :), (congrArg Desc.instr hdesc :),
    (congrArg Desc.cksum hdesc :), hleft⟩

/-! ## The reset event -/

theorem hostReset_of_idle {s : State} (hp : s.phase = .idle) : hostReset s = .next (resetEvent s) := if_pos hp

/-- Inside a transaction no reset is offered (U16; log 12). -/
theorem hostReset_of_open {s : State} (hp : s.phase ≠ .idle) : hostReset s = .refused .resetInTransaction := if_neg hp

/-- The five values of R190 and its one event. -/
theorem resetEvent_writes (s : State) :
    (resetEvent s).phase = .idle ∧ (resetEvent s).savedValid = false ∧ (resetEvent s).tapValid = false ∧
      (resetEvent s).pollcnt = 0 ∧ (resetEvent s).dir = (!s.params.dirTxLevel) ∧
      (resetEvent s).events = s.events ++ [.dir (!s.params.dirTxLevel)] :=
  ⟨rfl, rfl, rfl, rfl, rfl, rfl⟩

/-- What reset leaves alone: the channel (R190), and by log 12 the bus enable, the parameters, the last result, the
refusals and the coming inputs and moves. -/
theorem resetEvent_keeps (s : State) :
    (resetEvent s).ch = s.ch ∧ (resetEvent s).params = s.params ∧ (resetEvent s).busEn = s.busEn ∧
      (resetEvent s).inputs = s.inputs ∧ (resetEvent s).env = s.env ∧ (resetEvent s).refusals = s.refusals ∧
      (resetEvent s).result = s.result ∧ (resetEvent s).hung = s.hung :=
  ⟨rfl, rfl, rfl, rfl, rfl, rfl, rfl, rfl⟩

/-- Settles O9: in `IDLE` the step is `resetEvent` on the state with the input taken, which writes R190's values
(`resetEvent_writes`) and keeps the rest (`resetEvent_keeps`); in another phase `hostReset` refuses. -/
theorem resetInputDoesWhatTheRuleSays : Obligations.ResetInputDoesWhatTheRuleSays := by
  intro s inputs hh hi
  have hstep : step s = hostReset { s with inputs := inputs } := step_of_input hh hi
  constructor
  · intro hp
    obtain ⟨hphase, hsaved, htap, hpoll, hdir, hevents⟩ := resetEvent_writes { s with inputs := inputs }
    obtain ⟨hch, hparams, hbus, hinputs, henv, hrefusals, hresult, hhung⟩ :=
      resetEvent_keeps { s with inputs := inputs }
    exact ⟨_, hstep.trans (hostReset_of_idle hp), hphase, hsaved, htap, hpoll, hdir, hevents, hch, hparams, hbus,
      hinputs, henv, hrefusals, hresult, hhung.trans hh⟩
  · intro hp
    exact hstep.trans (hostReset_of_open hp)

end Sys2Proof.Machine
end
